-- ==== Sys2Proof/Word.lean ====
section
/-! DEFINITION. The word types of the dispatcher block and of what it exchanges with its environment (spec R7, R22,
R27, R58). Every quantity of the block is unsigned. -/

namespace Sys2Proof

/-- A byte of the link, a colour channel, or an 8-bit register (R7). -/
abbrev Byte := BitVec 8

/-- A 16-bit register or wire field (R22, R23, R25). -/
abbrev Half := BitVec 16

/-- A line speed in bits per second, 32 bits wide (R27, R28, D37). -/
abbrev Rate := BitVec 32

/-- A value of the host's free-running millisecond clock, 32 bits, wrapping (R282, D18), or a duration in milliseconds. -/
abbrev Millis := BitVec 32

/-- A value of the open type `TOKEN`, by its number among the values of that type. Only equality of tokens is ever used
(R6, R63, D34), so a type is known by how many values it has: the parameter `Config.tokenType` (assumption log 9). -/
abbrev Token := Nat

/-- One cell of PixelSink: four channels of 8 bits (R58, D42). -/
structure Pixel where
  r : Byte
  g : Byte
  b : Byte
  w : Byte
  deriving DecidableEq, Repr, Inhabited

end Sys2Proof
end

