-- ==== Sys2Proof/Config.lean ====
section
/-! DEFINITION. What the platform fixes (the OPEN parameters of spec R6) and the FREE VALUES: what a collaborator or the
host chooses at each occasion (the "draws" of the spec's 93_implementation_defined.md). Everything opaque here has no
body, so no proof can see a value of it. -/

namespace Sys2Proof

/-- `TOKEN`, a type with equality: how many values it has (R6, D34, U20; the numbering is assumption log 9). The spec's
default, 32 bits unsigned, is `.finite (2 ^ 32 - 1)`. -/
inductive TokenType where
  /-- The values numbered 0 to `last`. -/
  | finite (last : Nat)
  /-- Values without end. -/
  | unbounded
  deriving DecidableEq, Repr, Inhabited

/-- Whether a number stands for a value of the type. -/
def TokenType.has : TokenType → Token → Bool
  | .finite last, t => t ≤ last
  | .unbounded, _ => true

/-- The value of the type that a choice stands for; every value is the image of a choice. -/
def TokenType.value : TokenType → Nat → Token
  | .finite last, raw => raw % (last + 1)
  | .unbounded, raw => raw

/-- The open parameters of R6, constant for a session. A state carries them in one field that no step writes. -/
structure Config where
  /-- `PIXEL_COUNT`, any natural number (R6, R67, D43). -/
  pixelCount : Nat
  /-- `TH_M2`, the second magic byte of the text header (R6, D3). -/
  thM2 : Byte
  /-- `TH_M3`, the third magic byte of the text header (R6, D3). -/
  thM3 : Byte
  /-- `DEFAULT_BAUD` (R6, D21). -/
  defaultBaud : Rate
  /-- `BAUD_MIN`, with its constraint `BAUD_MIN <= 115200` in the type (R6, D21). -/
  baudMin : Fin 115201
  /-- `CLAIM_TAG`, one opaque tag for both pixel protocols (R6, D15). -/
  claimTag : Nat
  /-- `BIN_WHITE_IN`, the white operand of the binary input path (R193, D7). -/
  binWhiteIn : Byte
  /-- `VERSION_REPLY` (R210, D23). -/
  versionReply : List Byte
  /-- `ERR_NOBUF_REPLY` (R274, D14). -/
  errNobufReply : List Byte
  /-- `BOOT_CAP`, the capability that guards the boot toggle (R211, R286, D26). -/
  bootCap : Bool
  /-- `TOKEN` (R6, D34). -/
  tokenType : TokenType
  /-- `TOKEN_RESET`, as a choice of a value of `TOKEN` (R30, D20). -/
  tokenReset : Nat
  /-- `NEWLINE`, the end of a textual readback frame (R251, D24). -/
  newline : List Byte
  deriving DecidableEq, Repr, Inhabited

/-- RealtimeClaim as its owner holds it: a mode tag and an expiry timestamp (R35, R66). -/
structure Claim where
  tag : Nat
  expiry : Millis
  deriving DecidableEq, Repr, Inhabited

/-- One act of another party on the sink (R70). -/
inductive SinkAct where
  | write (i : Nat) (p : Pixel)
  | flush
  deriving DecidableEq, Repr, Inhabited

/-- What another party did to the state it shares with the block: its writes and flushes in the order it made them, which
is its own to choose, and the token (a choice of a value of `TOKEN`) and the claim it left behind (R62, R70, R288, U12,
U25; assumption log 13). -/
structure SharedChange where
  acts : List SinkAct
  token : Nat
  claim : Option Claim
  deriving DecidableEq, Repr, Inhabited

/-- The pairing collaborator's choices at one hand-off: how many bytes it takes, what it sends, what it changes
(R132, U11, U12). -/
structure PairingDraw where
  taken : Nat
  sends : List Byte
  shared : SharedChange
  deriving DecidableEq, Repr, Inhabited

/-- What the structured-request collaborator reports (R133). -/
inductive RequestOutcome where
  | exhausted
  | malformed
  | okQuiet
  | okVerbose
  deriving DecidableEq, Repr, Inhabited

/-- The structured-request collaborator's choices at one hand-off (R133, U10, U12); `reply` is the combined state+info
reply it would send on a verbose result (U4). -/
structure RequestDraw where
  taken : Nat
  outcome : RequestOutcome
  reply : List Byte
  shared : SharedChange
  deriving DecidableEq, Repr, Inhabited

/-- What the boot collaborator finds at one toggle: the identities of the running image and of the image configured to
boot, and whether marking the alternate image bootable succeeds (R211, R288). -/
structure BootDraw where
  runningImage : Nat
  bootImage : Nat
  marked : Bool
  deriving DecidableEq, Repr, Inhabited

/-- The parameters of the platform the block is built for. -/
opaque Config.platform : Config

/-- FREE VALUE: the time that passes before the n-th reading of the clock (R115, R116, U21). -/
opaque Config.elapsed : Nat → Millis

/-- FREE VALUE: the token the sink holds after the n-th event, when that event is a write or a flush, as a choice
of a value of `TOKEN` (R63, U20). -/
opaque Config.sinkToken : Nat → Nat

/-- FREE VALUE: the token the sink holds when the subsystem starts, as a choice of a value of `TOKEN`; the
spec leaves it to the sink (R36, U20). -/
opaque Config.initialToken : Nat

/-- FREE VALUE: the pairing collaborator's behaviour at the n-th event (U11, U12). -/
opaque Config.pairing : Nat → PairingDraw

/-- FREE VALUE: the structured-request collaborator's behaviour at the n-th event (U10, U12). -/
opaque Config.request : Nat → RequestDraw

/-- FREE VALUE: what the boot collaborator finds at the n-th event (U8). -/
opaque Config.boot : Nat → BootDraw

end Sys2Proof
end

