-- ==== Sys2Proof/Syntax.lean ====
section
/-! DEFINITION. The decoder positions (spec R20) and the instructions: one constructor per row of opcode_table.json. An
instruction is one byte in one decoder position (R2, R80). -/

namespace Sys2Proof

/-- `state`, the register that plays the part of a program counter: twelve positions, each named after the byte it waits
for (R20, R21). The spec's 4-bit codes are not part of the model (D2). -/
inductive DecoderState where
  | idle
  | thM2
  | thM3
  | thCntHi
  | thCntLo
  | thChk
  | pxR
  | pxG
  | pxB
  | binType
  | binLenHi
  | binLenLo
  deriving DecidableEq, Repr, Inhabited

/-- The instructions. A constructor of a row with a fixed byte has no argument; a row that takes any byte carries it. -/
inductive Instr where
  -- lead bytes of the frame dispatcher (41_dispatcher.md)
  | thStart
  | binStart
  | pairHandoff
  | reqHandoff
  -- single-byte commands (45_commands.md)
  | cmdVersion
  | cmdBoot
  | cmdReconnect
  | cmdBaud0
  | cmdBaud1
  | cmdBaud2
  | cmdBaud3
  | cmdBaud4
  | cmdBaud5
  | cmdBaud6
  | cmdBaud7
  | cmdReadText
  | cmdReadBin
  | cmdContOff
  | cmdContOn
  | noise (b : Byte)
  -- text header (42_text_header.md)
  | thM2 (b : Byte)
  | thM3 (b : Byte)
  | thCntHi (b : Byte)
  | thCntLo (b : Byte)
  | thChk (b : Byte)
  -- binary header (43_binary.md)
  | binData
  | binPing
  | binUnsupported (b : Byte)
  | binLenHi (b : Byte)
  | binLenLo (b : Byte)
  -- pixel data (44_pixel_data.md)
  | pxR (b : Byte)
  | pxG (b : Byte)
  | pxB (b : Byte)
  deriving DecidableEq, Repr, Inhabited

/-- The decoder position in which an instruction is seen: the part after `BYTE@` of its row's format in
opcode_table.json (R20, R80). -/
def Instr.position : Instr → DecoderState
  | .thStart | .binStart | .pairHandoff | .reqHandoff => .idle
  | .cmdVersion | .cmdBoot | .cmdReconnect => .idle
  | .cmdBaud0 | .cmdBaud1 | .cmdBaud2 | .cmdBaud3 => .idle
  | .cmdBaud4 | .cmdBaud5 | .cmdBaud6 | .cmdBaud7 => .idle
  | .cmdReadText | .cmdReadBin | .cmdContOff | .cmdContOn => .idle
  | .noise _ => .idle
  | .thM2 _ => .thM2
  | .thM3 _ => .thM3
  | .thCntHi _ => .thCntHi
  | .thCntLo _ => .thCntLo
  | .thChk _ => .thChk
  | .binData | .binPing => .binType
  | .binUnsupported _ => .binType
  | .binLenHi _ => .binLenHi
  | .binLenLo _ => .binLenLo
  | .pxR _ => .pxR
  | .pxG _ => .pxG
  | .pxB _ => .pxB

end Sys2Proof
end

