-- ==== Sys2Proof/Machine/State.lean ====
section
/-! DEFINITION. The state of the machine: the block's registers, the invocation in progress, and the environment state
the block touches (spec R11, R20 to R36, R50 to R66), with what the model adds to observe a run (R9). All plain data. -/

namespace Sys2Proof.Machine

/-- The bytes of PixelSink by byte address, in one canonical form (`Memory.wf`): addresses strictly rising and no byte
equal to what an unlisted address reads as. Channel `c` of cell `i` stands at address `4 * i + c`, in the order R, G, B,
W (DESIGN CHOICE: the sink is indexed by cell, R58; assumption log 4). -/
abbrev Memory := List Host.Cell

/-- The inputs the host supplies, sampled once at the start of an invocation (R32, D27). -/
structure HostInputs where
  rxClaimed : Bool
  txClaimed : Bool
  txOwnerDiag : Bool
  rtExclusiveOther : Bool
  interactiveBusy : Bool
  claimTimeout : Millis
  deriving DecidableEq, Repr, Inhabited

/-- Where the block stands in the sequence of R112: outside any invocation, in the byte loop, or before the scheduler
step that follows the loop. -/
inductive Phase where
  | between
  | draining
  | scheduling
  deriving DecidableEq, Repr, Inhabited

/-- A byte that has left the link, with the speed it left at (R56, R71). -/
structure LineByte where
  byte : Byte
  rate : Rate
  deriving DecidableEq, Repr, Inhabited

/-- The six error kinds (R271 to R276). -/
inductive ErrorKind where
  | framing
  | checksum
  | unsupportedSubcommand
  | resourceExhausted
  | deserialization
  | privilegedOperationFailure
  deriving DecidableEq, Repr

/-- The diagnostic notes: opaque events, not bytes of TX (R290, D36). -/
inductive DiagNote where
  | budgetNote
  | bootReport
  deriving DecidableEq, Repr

/-- The externally visible actions of the block, in the notation of R9. -/
inductive Effect where
  /-- One byte appended to the transmit stream. -/
  | tx (b : Byte)
  /-- `SinkWrite` of a cell, issued whether or not the sink has it (R60). -/
  | write (i : Half) (p : Pixel)
  /-- `ClaimAcquire(tag, timeout)`. -/
  | claim (tag : Nat) (timeout : Millis)
  | flush
  | drain
  | reopen (rate : Rate)
  /-- `force_reconnect <- true`. -/
  | reconnect
  | boot
  | pair
  | request
  | diag (note : DiagNote)
  deriving DecidableEq, Repr

/-- A move of the outside world, or its leave for the block to move (R10, R287, R288). -/
inductive Move where
  /-- The block makes its next move; between invocations that is the host's next poll. -/
  | run
  /-- The host starts an invocation now. -/
  | invoke
  /-- The link driver appends received bytes to RX (R51, U23). -/
  | arrive (bytes : List Byte)
  /-- The link driver sends up to `n` bytes from the head of TX (R55). -/
  | transmit (n : Nat)
  /-- The host changes its inputs; a running invocation keeps those it sampled (R32, U22). -/
  | inputs (h : HostInputs)
  /-- Another real-time source acts on the sink and the claim (R70, U25). -/
  | foreign (c : SharedChange)
  /-- The consumer of the reconnect flag clears it (R31, U32). -/
  | clearReconnect
  /-- The restart the boot collaborator has scheduled happens; without one, nothing (R211, R300, U9). -/
  | restart
  /-- The reset input of a hardware rendering (R300, D20). -/
  | resetInput
  deriving DecidableEq, Repr

structure State where
  /-- The platform's parameters; no step writes them (R6). -/
  cfg : Config
  -- DecoderState (R20)
  state : DecoderState
  -- FrameContext (R22)
  count : Half
  chk : Byte
  idx : Half
  r : Byte
  g : Byte
  bin : Bool
  -- LinkConfig (R27) and the reconnect flag (R31)
  baud : Rate
  continuous : Bool
  lastToken : Token
  forceReconnect : Bool
  -- the invocation in progress (R112); `sampled` and `start` mean something only while there is one
  phase : Phase
  sampled : HostInputs
  start : Millis
  -- the link driver: received and not consumed, appended and not sent, sent, and its speed (R51, R55, R57)
  rx : List Byte
  tx : List Byte
  line : List LineByte
  linkRate : Rate
  -- PixelSink: its cells, the image last flushed, its token; and RealtimeClaim (R58, R62, R63, R66)
  mem : Memory
  shown : Memory
  token : Token
  claim : Option Claim
  -- the boot collaborator's pending restart (R35), the host's inputs and clock (R32, R282)
  restartPending : Bool
  inputs : HostInputs
  now : Millis
  /-- The outside world's coming moves, oldest first; when there is none, the block moves (assumption log 6). -/
  schedule : List Move
  /-- The model's own counter: how many free values have been drawn. -/
  draws : Nat
  /-- The effect trace, oldest first (R9). -/
  trace : List Effect
  /-- The error kinds raised, oldest first: a ghost, read by nothing (R277). -/
  errors : List ErrorKind
  deriving DecidableEq, Repr

/-- There is no fault: "Nothing in this subsystem is fatal to the host process" (R12, R270). No meaning and no step can
raise one, which is what the empty type says; that is safe, since a machine that never stops is what the spec gives. -/
inductive Fault where
  deriving DecidableEq, Repr

/-- Why the model gives a step no meaning. -/
inductive Refusal where
  /-- Raised by `exec` for an instruction without a meaning yet; no arm raises it now. Safe: nothing is claimed. -/
  | notModelled (mnemonic : String)
  /-- Raised by the step when the host starts an invocation while another runs (R118, R304, U26). Safe: the spec gives
  such a run no behaviour, and the model claims none. -/
  | overlappingInvocation
  deriving DecidableEq, Repr

/-- What an instruction or a step ends in. -/
abbrev Result := Host.Outcome State Fault Refusal

/-- Host inputs under which every invocation proceeds; the reset value of the pins (DESIGN CHOICE, assumption log 2). -/
def HostInputs.clear : HostInputs :=
  { rxClaimed := false, txClaimed := false, txOwnerDiag := false, rtExclusiveOther := false, interactiveBusy := false,
    claimTimeout := 0 }

/-- The machine right after reset (R36, R301). The block's registers have the values of R36's table; the environment's
state, which reset does not touch and the spec leaves unspecified, starts at the values of assumption logs 2 and 5. -/
def State.reset : State where
  cfg := Config.platform
  state := .idle
  count := 0
  chk := 0
  idx := 0
  r := 0
  g := 0
  bin := false
  baud := Config.platform.defaultBaud
  continuous := false
  lastToken := Config.platform.tokenType.value Config.platform.tokenReset
  forceReconnect := false
  phase := .between
  sampled := HostInputs.clear
  start := 0
  rx := []
  tx := []
  line := []
  linkRate := Config.platform.defaultBaud
  mem := []
  shown := []
  token := Config.platform.tokenType.value Config.initialToken
  claim := none
  restartPending := false
  inputs := HostInputs.clear
  now := 0
  schedule := []
  draws := 0
  trace := []
  errors := []

end Sys2Proof.Machine
end

