-- ==== Sys2Proof/Machine/Operands.lean ====
section
/-! DEFINITION. The computations on operand bytes and registers (spec R84, R85, R87, R95, R193, R252, R253) and the fixed
tables and constants of R6 that they use. -/

namespace Sys2Proof.Machine

/-- `XOR_CONST` (R6, R85). -/
def xorConst : Byte := 0x55

/-- The exempt byte of the continuous-clear, `O` (R225, R227). -/
def contOnByte : Byte := 0x4F

/-- `BIN_ACK`, the reply to a ping (R6, R88). -/
def binAck : Byte := 0xAC

/-- `BUDGET_MS`, fixed at 100 (R6, R116, R119). -/
def budgetMs : Millis := 100

/-- `BAUD_TABLE` by index: the eight rates (R6, R82). -/
def baudTable : List Rate := [115200, 230400, 460800, 500000] ++ [576000, 921600, 1000000, 1500000]

/-- The rate of baud byte `0xB0 + n` (R82). -/
def baudRate (n : Fin 8) : Rate := baudTable.getD n.val 0

/-- A count-high or length-high byte in the high half of `count` (R152, R173, R95). -/
def highHalf (b : Byte) : Half := b.zeroExtend 16 <<< 8

/-- The high byte of a 16-bit value, `v[15:8]` (R7). -/
def hiByte (v : Half) : Byte := v.extractLsb' 8 8

/-- The low byte of a 16-bit value, `v[7:0]` (R7). -/
def loByte (v : Half) : Byte := v.extractLsb' 0 8

/-- Count-low: `(count + b + 1) mod 2^16`, the wire field being one less than the count (R84, R153). -/
def countWithLow (count : Half) (b : Byte) : Half := count + b.zeroExtend 16 + 1

/-- The checksum accumulator after count-low (R85, R153). -/
def checksumWithLow (chk b : Byte) : Byte := chk ^^^ b ^^^ xorConst

/-- The binary length `L` from the stored high half and length-low (R87, R174). -/
def lengthWithLow (count : Half) (b : Byte) : Half := count ||| b.zeroExtend 16

/-- `L div 3`, the remainder dropped (R65, R87, R174). -/
def pixelsOfLength (len : Half) : Half := len / 3

/-- `sat8(a + b) = min(255, a + b)` (R8, R95). -/
def sat8 (a b : Byte) : Byte := BitVec.ofNat 8 (min 255 (a.toNat + b.toNat))

/-- `Composite(R, G, B, W)`: the white value added to each colour, saturating (R193). The result's white is 0, the value
the block writes (R192). -/
def composite (p : Pixel) : Pixel :=
  { r := sat8 p.r p.w, g := sat8 p.g p.w, b := sat8 p.b p.w, w := 0 }

/-- The cell `PX.B` writes: the wire values in a text frame, composited with `BIN_WHITE_IN` in a binary frame; white 0 in
both (R192, D7). -/
def pixelToWrite (bin : Bool) (whiteIn r g b : Byte) : Pixel :=
  if bin then composite { r := r, g := g, b := b, w := whiteIn } else { r := r, g := g, b := b, w := 0 }

/-- `Packed(R, G, B, W) = W ++ R ++ G ++ B` (R252, D24). -/
def packed (p : Pixel) : BitVec 32 := p.w ++ p.r ++ p.g ++ p.b

/-- The ASCII digit of a number below ten (R7). -/
def digitByte (d : Nat) : Byte := BitVec.ofNat 8 (0x30 + d)

/-- The decimal digits of `v`, most significant first, at most `fuel` of them. -/
def decimalDigits : Nat → Nat → List Byte
  | 0, _ => []
  | fuel + 1, v => if v < 10 then [digitByte v] else decimalDigits fuel (v / 10) ++ [digitByte (v % 10)]

/-- `Decimal(v)` of a packed colour: at least one digit, at most ten, no leading zero (R253). -/
def decimal (v : BitVec 32) : List Byte := decimalDigits 10 v.toNat

/-- How many bytes a hand-off collaborator takes of a stream: its choice `raw` brought into `1 <= k <= avail`, the range
the spec assumes of it (R53, D12, D13, U10, U11). Every `k` of that range is the image of some `raw`. -/
def takenBytes (raw avail : Nat) : Nat := raw % avail + 1

end Sys2Proof.Machine
end

