-- ==== Sys2Proof/Machine/Ops.lean ====
section
/-! DEFINITION. The primitives of spec R8 over the sink's memory, the streams and the registers: R51 to R66 for the
spaces, R26 for `GotoIdle`, R194 for `Commit`, and the error entry of R280, the block's analogue of taking a trap. -/

namespace Sys2Proof.Machine

/-! ## The sink's memory -/

/-- What a byte that nothing has written reads as (DESIGN CHOICE: the spec leaves the sink's contents at reset open;
assumption log 5). -/
def unlistedByte : Byte := 0

/-- One byte of the sink. -/
def Memory.read : Memory → Nat → Byte
  | [], _ => unlistedByte
  | (k, v) :: m, a => if k = a then v else Memory.read m a

/-- One byte written, keeping the canonical form. -/
def Memory.write : Memory → Nat → Byte → Memory
  | [], a, v => if v = unlistedByte then [] else [(a, v)]
  | (k, w) :: m, a, v =>
    if k < a then (k, w) :: Memory.write m a v
    else if k = a then (if v = unlistedByte then m else (a, v) :: m)
    else (if v = unlistedByte then (k, w) :: m else (a, v) :: (k, w) :: m)

/-- The canonical form: addresses strictly rising, no byte equal to what an unlisted address reads as. -/
def Memory.wf : Memory → Bool
  | [] => true
  | (k, v) :: m => v != unlistedByte && m.all (fun c => k < c.1) && Memory.wf m

/-- The byte address of channel `c` of cell `i` (assumption log 4). -/
def chanAddr (i c : Nat) : Nat := 4 * i + c

/-- `SinkRead(i)`: the four channels of a cell (R61, R66). -/
def sinkRead (m : Memory) (i : Nat) : Pixel :=
  { r := Memory.read m (chanAddr i 0), g := Memory.read m (chanAddr i 1), b := Memory.read m (chanAddr i 2),
    w := Memory.read m (chanAddr i 3) }

/-- A cell stored in a sink of `n` cells; beyond its capacity the sink drops the write (R59, R60, D9). -/
def sinkStore (n : Nat) (m : Memory) (i : Nat) (p : Pixel) : Memory :=
  if i < n then
    Memory.write (Memory.write (Memory.write (Memory.write m (chanAddr i 0) p.r) (chanAddr i 1) p.g) (chanAddr i 2) p.b)
      (chanAddr i 3) p.w
  else m

/-- One act of another party on the cells and the shown image (R60, R62). -/
def sinkAct (n : Nat) (a : SinkAct) (mem shown : Memory) : Memory × Memory :=
  match a with
  | .write i p => (sinkStore n mem i p, shown)
  | .flush => (mem, mem)

/-- Another party's acts in order: the cells and the shown image it leaves. A flush shows the cells as they are at that
moment, so the last act need not be one (R62, R70). -/
def sinkActs (n : Nat) : List SinkAct → Memory → Memory → Memory × Memory
  | [], mem, shown => (mem, shown)
  | a :: as, mem, shown => sinkActs n as (sinkAct n a mem shown).1 (sinkAct n a mem shown).2

/-! ## The link -/

/-- `RxPop()` (R51). -/
def popRx (s : State) : State := { s with rx := s.rx.tail }

/-- The bytes a hand-off collaborator takes from the head of RX (R53). -/
def takeRx (raw : Nat) (s : State) : State := { s with rx := s.rx.drop (takenBytes raw s.rx.length) }

/-- `TxPutAll(bytes)`: one `TxPut` for each byte, in order (R55). -/
def txPutAll (bytes : List Byte) (s : State) : State :=
  { s with tx := s.tx ++ bytes, trace := s.trace ++ bytes.map Effect.tx }

/-- The driver sends the first `n` bytes of TX at its present speed (R55, R71). -/
def sendBytes (n : Nat) (s : State) : State :=
  { s with
    tx := s.tx.drop n
    line := s.line ++ (s.tx.take n).map (fun b => { byte := b, rate := s.linkRate }) }

/-- `TxDrain()`: every byte appended before has left the link (R56, R71). -/
def txDrain (s : State) : State :=
  let t := sendBytes s.tx.length s
  { t with trace := t.trace ++ [.drain] }

/-- `LinkReopen(rate)`: the driver's speed changes, RX is kept (R57, D22). -/
def linkReopen (rate : Rate) (s : State) : State := { s with linkRate := rate, trace := s.trace ++ [.reopen rate] }

/-! ## The clock, the claim and the sink as the block reaches them -/

/-- A reading of the clock, by the block or by the owner of the claim: a time of the host's choosing has passed since the
last one (R282, U21). -/
def readClock (elapsed : Millis) (s : State) : State := { s with now := s.now + elapsed, draws := s.draws + 1 }

/-- `ClaimAcquire(CLAIM_TAG, claim_timeout)`: always succeeds; the expiry is the owner's reading of the clock plus the
timeout sampled at the start of the invocation (R66, R72, R194, D15). -/
def claimAcquire (s : State) : State :=
  let t := readClock (Config.elapsed s.draws) s
  { t with
    claim := some { tag := t.cfg.claimTag, expiry := t.now + t.sampled.claimTimeout }
    trace := t.trace ++ [.claim t.cfg.claimTag t.sampled.claimTimeout] }

/-- `SinkWrite(i, p)`: issued whatever the sink's capacity; the sink's token is then whatever the sink makes it
(R59, R60, R63). -/
def sinkWrite (i : Half) (p : Pixel) (s : State) : State :=
  { s with
    mem := sinkStore s.cfg.pixelCount s.mem i.toNat p
    token := s.cfg.tokenType.value (Config.sinkToken s.draws)
    draws := s.draws + 1
    trace := s.trace ++ [.write i p] }

/-- `SinkFlush()`: the sink shows its current cells (R62, R63, R71). -/
def sinkFlush (s : State) : State :=
  { s with
    shown := s.mem
    token := s.cfg.tokenType.value (Config.sinkToken s.draws)
    draws := s.draws + 1
    trace := s.trace ++ [.flush] }

/-- What another party does to the shared state: its writes and flushes in its own order, then the token and the claim as
it leaves them (R62, R70, R288, U12, U25). The party's acts are indivisible to the block (assumption logs 13 and 15). -/
def applyShared (c : SharedChange) (s : State) : State :=
  { s with
    mem := (sinkActs s.cfg.pixelCount c.acts s.mem s.shown).1
    shown := (sinkActs s.cfg.pixelCount c.acts s.mem s.shown).2
    token := s.cfg.tokenType.value c.token
    claim := c.claim }

/-- `Diag(note)` (R290, D36). -/
def diag (note : DiagNote) (s : State) : State := { s with trace := s.trace ++ [.diag note] }

/-! ## Registers, errors, commit -/

/-- `GotoIdle()`: `S_IDLE` and FrameContext zero (R8, R26). -/
def gotoIdle (s : State) : State :=
  { s with state := .idle, count := 0, chk := 0, idx := 0, r := 0, g := 0, bin := false }

/-- `raise <Kind>`: a label with no architectural effect (R8, R277, D28). -/
def raiseError (k : ErrorKind) (s : State) : State := { s with errors := s.errors ++ [k] }

/-- ERROR ENTRY, the block's analogue of taking a trap, shared by FramingError, ChecksumError and UnsupportedSubcommand:
nothing is saved, the whole effect is `GotoIdle()` (R280). There is no return: the next byte is a lead byte like any
other, and nothing has to be restored (R281). -/
def errorEntry (k : ErrorKind) (s : State) : State := gotoIdle (raiseError k s)

/-- `Commit()`: claim, then flush, then idle (R194, D16). -/
def commit (s : State) : State := gotoIdle (sinkFlush (claimAcquire s))

/-- The block's registers at their reset values, and the invocation gone; the host opens the link at `DEFAULT_BAUD`
again before it polls. RX, TX, PixelSink and RealtimeClaim are not touched (R36, R301 to R303). -/
def resetBlock (s : State) : State :=
  { gotoIdle s with
    baud := s.cfg.defaultBaud
    continuous := false
    lastToken := s.cfg.tokenType.value s.cfg.tokenReset
    forceReconnect := false
    phase := .between
    linkRate := s.cfg.defaultBaud
    restartPending := false }

end Sys2Proof.Machine
end

