-- ==== Sys2Proof/Machine/Flags.lean ====
section
/-! DEFINITION. The two flags of the block, `continuous` and `force_reconnect` (spec R29, R31), the side effect of every
consumed byte (R227), and the end of a byte step (R52, R113). -/

namespace Sys2Proof.Machine

/-- `continuous <- v` (R224, R225). -/
def setContinuous (v : Bool) (s : State) : State := { s with continuous := v }

/-- The continuous-clear: any byte but `O` switches continuous mode off (R227, D11). -/
def clearContinuous (b : Byte) (s : State) : State :=
  { s with continuous := s.continuous && b == contOnByte }

/-- `force_reconnect <- 1` (R31, R212). -/
def setReconnect (s : State) : State := { s with forceReconnect := true, trace := s.trace ++ [.reconnect] }

/-- The end of a byte step after the handler of byte `b`: continuous-clear, then pop (R113, R52, D31). -/
def finishByte (b : Byte) (s : State) : State := popRx (clearContinuous b s)

end Sys2Proof.Machine
end

