-- ==== Sys2Proof/Machine/BinaryHeader.lean ====
section
/-! DEFINITION. The binary pixel decoder's header and length parser (spec R170 to R175). -/

namespace Sys2Proof.Machine

/-- `BIN.DATA` (R170). -/
def execBinData (s : State) : Result := .next (finishByte 0xDA { s with state := .binLenHi })

/-- `BIN.PING`: one acknowledgement byte (R171). -/
def execBinPing (s : State) : Result := .next (finishByte 0xAA (gotoIdle (txPutAll [binAck] s)))

/-- `BIN.UNSUPPORTED` (R172). -/
def execBinUnsupported (b : Byte) (s : State) : Result :=
  .next (finishByte b (errorEntry .unsupportedSubcommand s))

/-- `BIN.LEN_HI` (R173, D8). -/
def execBinLenHi (b : Byte) (s : State) : Result :=
  .next (finishByte b { s with count := highHalf b, state := .binLenLo })

/-- The registers after length-low, before the test for an empty frame (R174). -/
def beginBinaryData (b : Byte) (s : State) : State :=
  { s with count := pixelsOfLength (lengthWithLow s.count b), idx := 0, bin := true }

/-- `BIN.LEN_LO`: a frame shorter than three bytes commits at once (R174, D6). -/
def execBinLenLo (b : Byte) (s : State) : Result :=
  .next (finishByte b
    (if pixelsOfLength (lengthWithLow s.count b) = 0 then commit (beginBinaryData b s)
    else { beginBinaryData b s with state := .pxR }))

end Sys2Proof.Machine
end

