-- ==== Sys2Proof/Machine/Readback.lean ====
section
/-! DEFINITION. The readback encoder and the continuous-output scheduler (spec R90 to R92, R250 to R256). -/

namespace Sys2Proof.Machine

/-- The three bytes a cell contributes to a binary readback frame (R90, R250). -/
def compositeBytes (p : Pixel) : List Byte := [(composite p).r, (composite p).g, (composite p).b]

/-- The length field of a binary readback frame, `(3 * n) mod 2^16` (R90, D25). -/
def readbackLength (n : Nat) : Half := BitVec.ofNat 16 (3 * n)

/-- `ReadbackBinary()`: the frame sent for a sink of `n` cells (R250). -/
def readbackBinary (n : Nat) (m : Memory) : List Byte :=
  [0xC9, 0xDA, hiByte (readbackLength n), loByte (readbackLength n)] ++
    (List.range n).flatMap (fun i => compositeBytes (sinkRead m i)) ++ [0x36, 0x0A]

/-- The decimal values of the cells with a comma between them (R251). -/
def commaSeparated : List (List Byte) → List Byte
  | [] => []
  | [d] => d
  | d :: ds => d ++ 0x2C :: commaSeparated ds

/-- `ReadbackText()`: the frame sent for a sink of `n` cells (R91, R251). -/
def readbackText (n : Nat) (m : Memory) (newline : List Byte) : List Byte :=
  0x5B :: commaSeparated ((List.range n).map (fun i => decimal (packed (sinkRead m i)))) ++ 0x5D :: newline

/-- A binary readback frame on TX. -/
def sendBinary (s : State) : State := txPutAll (readbackBinary s.cfg.pixelCount s.mem) s

/-- A textual readback frame on TX. -/
def sendText (s : State) : State := txPutAll (readbackText s.cfg.pixelCount s.mem s.cfg.newline) s

/-- `SchedulerStep()` (R255). -/
def schedulerStep (s : State) : State :=
  if s.continuous && s.token != s.lastToken then { sendBinary s with lastToken := s.token } else s

end Sys2Proof.Machine
end

