-- ==== Sys2Proof/Machine/Commands.lean ====
section
/-! DEFINITION. The single-byte command multiplexer (spec R210 to R228). -/

namespace Sys2Proof.Machine

/-- `CMD.VERSION` (R210). -/
def execCmdVersion (s : State) : Result := .next (finishByte 0x76 (txPutAll s.cfg.versionReply s))

/-- The outcomes of a boot toggle (R211). -/
inductive BootOutcome where
  | switchScheduled
  | markFailed
  | alreadyMismatched
  deriving DecidableEq, Repr

/-- `BootToggle()` from what the collaborator finds: the running image is compared with the image configured to boot
(R211, the spec's own reading of the source; assumption log 22). -/
def bootToggle (d : BootDraw) : BootOutcome :=
  if d.runningImage = d.bootImage then (if d.marked then .switchScheduled else .markFailed) else .alreadyMismatched

/-- The boot toggle of a block that has the capability: a restart is left pending (assumption log 19), or the failure
is reported; no register of the block changes (R211, R276, R35). -/
def bootRequest (d : BootDraw) (s : State) : State :=
  let t := { s with trace := s.trace ++ [.boot], draws := s.draws + 1 }
  match bootToggle d with
  | .switchScheduled => { t with restartPending := true }
  | .markFailed => diag .bootReport (raiseError .privilegedOperationFailure t)
  | .alreadyMismatched => diag .bootReport (raiseError .privilegedOperationFailure t)

/-- `CMD.BOOT`: without the capability the byte is noise (R211, R286, D26). -/
def execCmdBoot (s : State) : Result :=
  .next (finishByte 0x5E (if s.cfg.bootCap then bootRequest (Config.boot s.draws) s else s))

/-- `CMD.RECONNECT` (R212). -/
def execCmdReconnect (s : State) : Result := .next (finishByte 0x58 (setReconnect s))

/-- `BaudRequest(target)`: no effect at the present rate or below `BAUD_MIN`; else the register, the drain and the reopen
in that order (R213, D21, D22). -/
def baudRequest (target : Rate) (s : State) : State :=
  if target = s.baud ∨ target.toNat < s.cfg.baudMin.val then s
  else linkReopen target (txDrain { s with baud := target })

/-- `CMD.BAUD0` (R214). -/
def execCmdBaud0 (s : State) : Result := .next (finishByte 0xB0 (baudRequest (baudRate 0) s))

/-- `CMD.BAUD1` (R215). -/
def execCmdBaud1 (s : State) : Result := .next (finishByte 0xB1 (baudRequest (baudRate 1) s))

/-- `CMD.BAUD2` (R216). -/
def execCmdBaud2 (s : State) : Result := .next (finishByte 0xB2 (baudRequest (baudRate 2) s))

/-- `CMD.BAUD3` (R217). -/
def execCmdBaud3 (s : State) : Result := .next (finishByte 0xB3 (baudRequest (baudRate 3) s))

/-- `CMD.BAUD4` (R218). -/
def execCmdBaud4 (s : State) : Result := .next (finishByte 0xB4 (baudRequest (baudRate 4) s))

/-- `CMD.BAUD5` (R219). -/
def execCmdBaud5 (s : State) : Result := .next (finishByte 0xB5 (baudRequest (baudRate 5) s))

/-- `CMD.BAUD6` (R220). -/
def execCmdBaud6 (s : State) : Result := .next (finishByte 0xB6 (baudRequest (baudRate 6) s))

/-- `CMD.BAUD7` (R221). -/
def execCmdBaud7 (s : State) : Result := .next (finishByte 0xB7 (baudRequest (baudRate 7) s))

/-- `CMD.READ_TEXT` (R222). -/
def execCmdReadText (s : State) : Result := .next (finishByte 0x6C (sendText s))

/-- `CMD.READ_BIN` (R223). -/
def execCmdReadBin (s : State) : Result := .next (finishByte 0x4C (sendBinary s))

/-- `CMD.CONT_OFF` (R224). -/
def execCmdContOff (s : State) : Result := .next (finishByte 0x6F (setContinuous false s))

/-- `CMD.CONT_ON` (R225). -/
def execCmdContOn (s : State) : Result := .next (finishByte 0x4F (setContinuous true s))

/-- `NOISE`: discarded; the continuous-clear is its only effect (R226). -/
def execNoise (b : Byte) (s : State) : Result := .next (finishByte b s)

end Sys2Proof.Machine
end

