-- ==== Sys2Proof/Machine/LeadBytes.lean ====
section
/-! DEFINITION. The frame dispatcher's own lead bytes: the two frame starts and the two hand-offs (spec R130 to R136). -/

namespace Sys2Proof.Machine

/-- `TH.START` (R130). -/
def execThStart (s : State) : Result := .next (finishByte 0x41 { s with state := .thM2 })

/-- `BIN.START` (R131). -/
def execBinStart (s : State) : Result := .next (finishByte 0xC9 { s with state := .binType })

/-- The pairing hand-off with the collaborator's choices `d`: it takes bytes from RX, sends what it likes and may change
the shared state; the block ends the invocation at once, with no pop and no continuous-clear of its own. What the
collaborator sends is no part of the block's trace beyond `PAIR` (R53, R132, D12, U11, U12). -/
def pairingHandoff (d : PairingDraw) (s : State) : State :=
  let t := applyShared d.shared (takeRx d.taken s)
  { t with tx := t.tx ++ d.sends, trace := t.trace ++ [.pair], draws := t.draws + 1, phase := .between }

/-- `PAIR.HANDOFF` (R132). -/
def execPairHandoff (s : State) : Result := .next (pairingHandoff (Config.pairing s.draws) s)

/-- Whether transmit is available: the guard's transmit clause on the sampled inputs (R110, R133, D39). -/
def transmitAvailable (h : HostInputs) : Bool := !h.txClaimed || h.txOwnerDiag

/-- What the structured-request collaborator sends for an outcome, and the error it reports (R133, R274, R275, D14). -/
def requestReply (d : RequestDraw) (s : State) : State :=
  match d.outcome with
  | .exhausted => txPutAll s.cfg.errNobufReply (raiseError .resourceExhausted s)
  | .malformed => raiseError .deserialization s
  | .okQuiet => s
  | .okVerbose => if transmitAvailable s.sampled then txPutAll d.reply s else s

/-- The structured-request hand-off with the collaborator's choices `d` (R53, R133, D13, U10, U12). -/
def requestHandoff (d : RequestDraw) (s : State) : State :=
  let t := applyShared d.shared (takeRx d.taken s)
  requestReply d { t with trace := t.trace ++ [.request], draws := t.draws + 1 }

/-- `REQ.HANDOFF`: the block pops nothing itself; the continuous-clear applies (R133, R227). -/
def execReqHandoff (s : State) : Result :=
  .next (clearContinuous 0x7B (requestHandoff (Config.request s.draws) s))

end Sys2Proof.Machine
end

