-- ==== Sys2Proof/Machine/PixelData.lean ====
section
/-! DEFINITION. The pixel data loop and the pixel-buffer interface controller (spec R190 to R196). -/

namespace Sys2Proof.Machine

/-- `PX.R` (R190). -/
def execPxR (b : Byte) (s : State) : Result := .next (finishByte b { s with r := b, state := .pxG })

/-- `PX.G` (R191). -/
def execPxG (b : Byte) (s : State) : Result := .next (finishByte b { s with g := b, state := .pxB })

/-- The write of a completed pixel, then the index and count updates (R192). -/
def writePixel (b : Byte) (s : State) : State :=
  let t := sinkWrite s.idx (pixelToWrite s.bin s.cfg.binWhiteIn s.r s.g b) s
  { t with idx := s.idx + 1, count := s.count - 1 }

/-- `PX.B`: the last pixel of a frame commits it (R192, R194). -/
def execPxB (b : Byte) (s : State) : Result :=
  .next (finishByte b
    (if s.count - 1 = 0 then commit (writePixel b s) else { writePixel b s with state := .pxR }))

end Sys2Proof.Machine
end

