-- ==== Sys2Proof/Machine/TextHeader.lean ====
section
/-! DEFINITION. The text-header pixel decoder and its checksum validator (spec R150 to R155). -/

namespace Sys2Proof.Machine

/-- `TH.M2` (R150). -/
def execThM2 (b : Byte) (s : State) : Result :=
  .next (finishByte b (if b = s.cfg.thM2 then { s with state := .thM3 } else errorEntry .framing s))

/-- `TH.M3` (R151). -/
def execThM3 (b : Byte) (s : State) : Result :=
  .next (finishByte b (if b = s.cfg.thM3 then { s with state := .thCntHi } else errorEntry .framing s))

/-- `TH.CNT_HI` (R152). -/
def execThCntHi (b : Byte) (s : State) : Result :=
  .next (finishByte b { s with count := highHalf b, chk := b, state := .thCntLo })

/-- `TH.CNT_LO` (R153). -/
def execThCntLo (b : Byte) (s : State) : Result :=
  .next (finishByte b
    { s with count := countWithLow s.count b, chk := checksumWithLow s.chk b, state := .thChk })

/-- `TH.CHK`: a wrong checksum rejects the frame; a right one commits a frame of no pixels at once, or enters the pixel
data (R154, D5). -/
def execThChk (b : Byte) (s : State) : Result :=
  .next (finishByte b
    (if b = s.chk then
      if s.count = 0 then commit { s with idx := 0 } else { s with idx := 0, state := .pxR }
    else errorEntry .checksum s))

end Sys2Proof.Machine
end

