-- ==== Sys2Proof/Machine/Dispatch.lean ====
section
/-! DEFINITION. The meaning of every instruction: one arm per constructor. A meaning is the whole byte step of spec R113:
the handler, the continuous-clear and the pop. -/

namespace Sys2Proof.Machine

def exec (i : Instr) (s : State) : Host.Outcome State Fault Refusal :=
  match i with
  | .thStart => Sys2Proof.Machine.execThStart s
  | .binStart => Sys2Proof.Machine.execBinStart s
  | .pairHandoff => Sys2Proof.Machine.execPairHandoff s
  | .reqHandoff => Sys2Proof.Machine.execReqHandoff s
  | .cmdVersion => Sys2Proof.Machine.execCmdVersion s
  | .cmdBoot => Sys2Proof.Machine.execCmdBoot s
  | .cmdReconnect => Sys2Proof.Machine.execCmdReconnect s
  | .cmdBaud0 => Sys2Proof.Machine.execCmdBaud0 s
  | .cmdBaud1 => Sys2Proof.Machine.execCmdBaud1 s
  | .cmdBaud2 => Sys2Proof.Machine.execCmdBaud2 s
  | .cmdBaud3 => Sys2Proof.Machine.execCmdBaud3 s
  | .cmdBaud4 => Sys2Proof.Machine.execCmdBaud4 s
  | .cmdBaud5 => Sys2Proof.Machine.execCmdBaud5 s
  | .cmdBaud6 => Sys2Proof.Machine.execCmdBaud6 s
  | .cmdBaud7 => Sys2Proof.Machine.execCmdBaud7 s
  | .cmdReadText => Sys2Proof.Machine.execCmdReadText s
  | .cmdReadBin => Sys2Proof.Machine.execCmdReadBin s
  | .cmdContOff => Sys2Proof.Machine.execCmdContOff s
  | .cmdContOn => Sys2Proof.Machine.execCmdContOn s
  | .noise b => Sys2Proof.Machine.execNoise b s
  | .thM2 b => Sys2Proof.Machine.execThM2 b s
  | .thM3 b => Sys2Proof.Machine.execThM3 b s
  | .thCntHi b => Sys2Proof.Machine.execThCntHi b s
  | .thCntLo b => Sys2Proof.Machine.execThCntLo b s
  | .thChk b => Sys2Proof.Machine.execThChk b s
  | .binData => Sys2Proof.Machine.execBinData s
  | .binPing => Sys2Proof.Machine.execBinPing s
  | .binUnsupported b => Sys2Proof.Machine.execBinUnsupported b s
  | .binLenHi b => Sys2Proof.Machine.execBinLenHi b s
  | .binLenLo b => Sys2Proof.Machine.execBinLenLo b s
  | .pxR b => Sys2Proof.Machine.execPxR b s
  | .pxG b => Sys2Proof.Machine.execPxG b s
  | .pxB b => Sys2Proof.Machine.execPxB b s

end Sys2Proof.Machine
end

