-- ==== Sys2Proof/WellFormed.lean ====
section
/-! DEFINITION. Which terms of `Instr` an input can stand for: the two rows of lowest priority carry only the bytes that
no other row of their position takes (spec R81, R89, R94). -/

namespace Sys2Proof

/-- The 19 lead values that are not noise (R81). -/
def leadValues : List Byte :=
  [0x41, 0xC9, 0x49, 0x7B, 0x76, 0x5E, 0x58] ++ [0xB0, 0xB1, 0xB2, 0xB3, 0xB4, 0xB5, 0xB6, 0xB7] ++
    [0x6C, 0x4C, 0x6F, 0x4F]

/-- The two sub-commands of the binary protocol (R89). -/
def subCommands : List Byte := [0xDA, 0xAA]

/-- `NOISE` carries one of the 237 remaining lead values, `BIN.UNSUPPORTED` one of the 254 remaining sub-commands; every
other instruction is well formed with any byte (R80, R81, R89). -/
def Instr.wellFormed : Instr → Bool
  | .noise b => !leadValues.contains b
  | .binUnsupported b => !subCommands.contains b
  | _ => true

end Sys2Proof
end

