-- ==== Sys2Proof/Decode.lean ====
section
/-! DEFINITION. Decoding a byte in a decoder position (spec R80, R81, R89, R134, R228), and the encoder written from the
same layouts. No byte is illegal (R94): the only rejection is a stream with no byte in it. -/

namespace Sys2Proof

/-- The lead bytes with a meaning of their own, in the order of R81's table. -/
def leadTable : List (Byte × Instr) :=
  [(0x41, .thStart), (0xC9, .binStart), (0x49, .pairHandoff), (0x7B, .reqHandoff),
   (0x76, .cmdVersion), (0x5E, .cmdBoot), (0x58, .cmdReconnect)] ++
  [(0xB0, .cmdBaud0), (0xB1, .cmdBaud1), (0xB2, .cmdBaud2), (0xB3, .cmdBaud3),
   (0xB4, .cmdBaud4), (0xB5, .cmdBaud5), (0xB6, .cmdBaud6), (0xB7, .cmdBaud7)] ++
  [(0x6C, .cmdReadText), (0x4C, .cmdReadBin), (0x6F, .cmdContOff), (0x4F, .cmdContOn)]

/-- The instruction a table gives a byte, or another one where no row has that byte. -/
def lookupRow : List (Byte × Instr) → Byte → Instr → Instr
  | [], _, otherwise => otherwise
  | (k, i) :: rows, b, otherwise => if k = b then i else lookupRow rows b otherwise

/-- The frame dispatcher's opcode map: a lead byte of R81's table, or `NOISE` (R134, R135, R228). -/
def decodeLead (b : Byte) : Instr := lookupRow leadTable b (.noise b)

/-- The binary sub-commands (R170 to R172). -/
def subTable : List (Byte × Instr) := [(0xDA, .binData), (0xAA, .binPing)]

/-- The byte after `0xC9`: data, ping, or unsupported (R89). -/
def decodeSub (b : Byte) : Instr := lookupRow subTable b (.binUnsupported b)

/-- The instruction a byte is in a decoder position (R80, R113). -/
def decode : DecoderState → Byte → Instr
  | .idle, b => decodeLead b
  | .thM2, b => .thM2 b
  | .thM3, b => .thM3 b
  | .thCntHi, b => .thCntHi b
  | .thCntLo, b => .thCntLo b
  | .thChk, b => .thChk b
  | .pxR, b => .pxR b
  | .pxG, b => .pxG b
  | .pxB, b => .pxB b
  | .binType, b => decodeSub b
  | .binLenHi, b => .binLenHi b
  | .binLenLo, b => .binLenLo b

/-- Why a receive stream gives no instruction. -/
inductive DecodeError where
  /-- The stream holds no byte: the loop of an invocation ends (R112, R114). Nothing is lost, so this is safe. -/
  | noByte
  deriving DecidableEq, Repr

/-- Decoding at the head of a receive stream: the instruction and the bytes after it. -/
def decodeStream (st : DecoderState) : List Byte → Except DecodeError (Instr × List Byte)
  | [] => .error .noByte
  | b :: rest => .ok (decode st b, rest)

/-- The byte an instruction is written as (R81, R83, R86, R88). -/
def Instr.byte : Instr → Byte
  | .thStart => 0x41
  | .binStart => 0xC9
  | .pairHandoff => 0x49
  | .reqHandoff => 0x7B
  | .cmdVersion => 0x76
  | .cmdBoot => 0x5E
  | .cmdReconnect => 0x58
  | .cmdBaud0 => 0xB0
  | .cmdBaud1 => 0xB1
  | .cmdBaud2 => 0xB2
  | .cmdBaud3 => 0xB3
  | .cmdBaud4 => 0xB4
  | .cmdBaud5 => 0xB5
  | .cmdBaud6 => 0xB6
  | .cmdBaud7 => 0xB7
  | .cmdReadText => 0x6C
  | .cmdReadBin => 0x4C
  | .cmdContOff => 0x6F
  | .cmdContOn => 0x4F
  | .noise b => b
  | .thM2 b => b
  | .thM3 b => b
  | .thCntHi b => b
  | .thCntLo b => b
  | .thChk b => b
  | .binData => 0xDA
  | .binPing => 0xAA
  | .binUnsupported b => b
  | .binLenHi b => b
  | .binLenLo b => b
  | .pxR b => b
  | .pxG b => b
  | .pxB b => b

/-- The word of an instruction: the position in which it is sent and its byte (R80). -/
def encode (i : Instr) : DecoderState × Byte := (i.position, i.byte)

/-- The position a byte of opcode_table.json is read in. The table's words hold no position, so a fixed byte stands for
the position its row's format names: `BYTE@S_BIN_TYPE` for the two sub-commands, `BYTE@S_IDLE` for every other fixed
byte (DESIGN CHOICE, assumption log 3). -/
def tablePosition (b : Byte) : DecoderState := if subCommands.contains b then .binType else .idle

/-- The first byte of a table word: bits 7 to 0, the bits from `nbits` on read as 0. -/
def tableByte (nbits w : Nat) : Byte := BitVec.ofNat 8 (w % 2 ^ nbits)

/-- What the decoder reads from a table word, laid out as the one byte the link carries. -/
def decodeTableWord (nbits w : Nat) : Option Instr :=
  match decodeStream (tablePosition (tableByte nbits w)) [tableByte nbits w] with
  | .ok (i, _) => some i
  | .error .noByte => none

end Sys2Proof
end

