-- ==== Sys2Proof/Machine/Invocation.lean ====
section
/-! DEFINITION. The link availability guard, the entry of an invocation, the time-budget guard, and the moves of the
outside world (spec R110 to R119, R287, R288, U9, U22, U23, U25, U26, U32). -/

namespace Sys2Proof.Machine

/-- `Proceed()`, a pure predicate over the host inputs (R110). -/
def proceed (h : HostInputs) : Bool :=
  !h.rxClaimed && (!h.txClaimed || h.txOwnerDiag) && !h.rtExclusiveOther && !h.interactiveBusy

/-- The entry of an invocation whose guard has passed, `elapsed` milliseconds after the clock was last read: the inputs
are sampled, then `start` is taken (R112, R115, D18, D27). -/
def beginInvocation (elapsed : Millis) (s : State) : State :=
  let t := readClock elapsed { s with sampled := s.inputs }
  { t with start := t.now, phase := .draining }

/-- A poll of the host: with the guard false the invocation does nothing at all (R111, R112). -/
def poll (s : State) : State := if proceed s.inputs then beginInvocation (Config.elapsed s.draws) s else s

/-- The budget test after a byte, `elapsed` milliseconds after the clock was last read: strictly more than `BUDGET_MS`
since the start ends the byte loop with a diagnostic note (R116, R282). -/
def budgetTest (elapsed : Millis) (s : State) : State :=
  let t := readClock elapsed s
  if budgetMs < t.now - t.start then { diag .budgetNote t with phase := .scheduling } else t

/-- What the loop does after a byte step: the budget test, unless a pairing hand-off has ended the invocation
(R112, R114, R132). -/
def afterByte (s : State) : State :=
  match s.phase with
  | .draining => budgetTest (Config.elapsed s.draws) s
  | .between => s
  | .scheduling => s

/-- The end of the byte loop on an empty RX (R112, R114). -/
def endLoop (s : State) : State := { s with phase := .scheduling }

/-- The last part of an invocation: the scheduler step, then the return to the host (R112, D17). -/
def finishInvocation (s : State) : State := { schedulerStep s with phase := .between }

/-- A restart that the boot collaborator has scheduled; without one, nothing (R211, R300). -/
def restart (s : State) : State := if s.restartPending then resetBlock s else s

/-- The state in which the next step fetches and runs the byte `b` as read in position `p`: an invocation whose byte loop
is running, `b` at the head of RX, and leave for the block to move. -/
def readyToRun (p : DecoderState) (b : Byte) (s : State) : State :=
  { s with state := p, rx := b :: s.rx, phase := .draining, schedule := .run :: s.schedule }

end Sys2Proof.Machine
end

