-- ==== Sys2Proof/Machine/Run.lean ====
section
/-! DEFINITION. The sequence of an invocation (spec R112): poll, byte steps with the budget test, end of the loop,
scheduler step; and the moves of the outside world between them. -/

namespace Sys2Proof.Machine

/-- A byte step's outcome carried through the budget test. -/
def stepAfterByte : Result → Result
  | .next t => .next (afterByte t)
  | .fault f => .fault f
  | .refused r => .refused r

/-- The block's next move (R112). -/
def blockStep (s : State) : Result :=
  match s.phase with
  | .between => .next (poll s)
  | .draining =>
    match decodeStream s.state s.rx with
    | .ok (i, _) => stepAfterByte (exec i s)
    | .error .noByte => .next (endLoop s)
  | .scheduling => .next (finishInvocation s)

/-- A poll that the host makes at a moment of its own choice: during an invocation it has no meaning (R118, U26). -/
def hostInvoke (s : State) : Result :=
  match s.phase with
  | .between => .next (poll s)
  | .draining => .refused .overlappingInvocation
  | .scheduling => .refused .overlappingInvocation

/-- A scheduled move, the schedule having advanced past it. -/
def moveStep (m : Move) (s : State) : Result :=
  match m with
  | .run => blockStep s
  | .invoke => hostInvoke s
  | .arrive bytes => .next { s with rx := s.rx ++ bytes }
  | .transmit n => .next (sendBytes n s)
  | .inputs h => .next { s with inputs := h }
  | .foreign c => .next (applyShared c s)
  | .clearReconnect => .next { s with forceReconnect := false }
  | .restart => .next (restart s)
  | .resetInput => .next (resetBlock s)

/-- The next scheduled move, or the block's move when none is scheduled. -/
def nextMove (s : State) : Result :=
  match s.schedule with
  | [] => blockStep s
  | m :: ms => moveStep m { s with schedule := ms }

end Sys2Proof.Machine
end

