-- ==== Sys2Proof/Machine/Step.lean ====
section
/-! DEFINITION. One step of the machine, and the placing of an instruction where the next step fetches it. -/

namespace Sys2Proof.Machine

/-- One step: a move of the outside world, or one move of the block in the sequence of R112. -/
def step (s : State) : Host.Outcome State Fault Refusal := nextMove s

/-- The state whose next step runs the instruction of a table word: its byte at the head of RX, the block in the byte
loop of an invocation and in the position the byte's row names (assumption logs 3 and 7). -/
def State.withFetchWord (s : State) (nbits w : Nat) : State :=
  readyToRun (tablePosition (tableByte nbits w)) (tableByte nbits w) s

end Sys2Proof.Machine
end

