-- ==== Sys2Proof/Safety.lean ====
section
/-! DEFINITION. The terms in which claims about the machine are made: the block's registers as one value, the invariants
of spec R23 to R37, runs of byte steps, and the frames of the two pixel protocols (R83, R86, R97). -/

namespace Sys2Proof.Machine

/-! ## Registers -/

/-- The state of the block proper: `state`, FrameContext, LinkConfig and the reconnect flag (R11). -/
structure Registers where
  state : DecoderState
  count : Half
  chk : Byte
  idx : Half
  r : Byte
  g : Byte
  bin : Bool
  baud : Rate
  continuous : Bool
  lastToken : Token
  forceReconnect : Bool
  deriving DecidableEq, Repr

/-- The block's registers in a state. -/
def State.registers (s : State) : Registers where
  state := s.state
  count := s.count
  chk := s.chk
  idx := s.idx
  r := s.r
  g := s.g
  bin := s.bin
  baud := s.baud
  continuous := s.continuous
  lastToken := s.lastToken
  forceReconnect := s.forceReconnect

/-- `S_IDLE` with FrameContext zero: the registers after `GotoIdle()` (R26). -/
def Registers.cleared (r : Registers) : Registers :=
  { r with state := .idle, count := 0, chk := 0, idx := 0, r := 0, g := 0, bin := false }

/-- FrameContext is all zero (R26). -/
abbrev State.frameClear (s : State) : Prop :=
  s.count = 0 ∧ s.chk = 0 ∧ s.idx = 0 ∧ s.r = 0 ∧ s.g = 0 ∧ s.bin = false

/-- The block waits for a channel byte of a pixel. -/
abbrev State.inPixel (s : State) : Prop := s.state = .pxR ∨ s.state = .pxG ∨ s.state = .pxB

/-- What neither the block's registers, nor the head of RX, nor an effect says: TX and the line, the sink, the claim, the
host's side and the invocation are as before. -/
structure SameSurroundings (s t : State) : Prop where
  cfg : t.cfg = s.cfg
  invocation : t.phase = s.phase ∧ t.sampled = s.sampled ∧ t.start = s.start
  link : t.tx = s.tx ∧ t.line = s.line ∧ t.linkRate = s.linkRate
  host : t.restartPending = s.restartPending ∧ t.inputs = s.inputs ∧ t.schedule = s.schedule

/-- The sink and the claim are as before. -/
structure SameSink (s t : State) : Prop where
  mem : t.mem = s.mem
  shown : t.shown = s.shown
  token : t.token = s.token
  claim : t.claim = s.claim

/-- A commit has been made: one claim tagged for this block with the sampled timeout, one flush of the cells as they are
(R194). -/
structure Committed (s t : State) : Prop where
  claim : t.claim = some { tag := s.cfg.claimTag, expiry := t.now + s.sampled.claimTimeout }
  shown : t.shown = t.mem

/-- The effects of a commit in the trace (R9, R194). -/
def commitEffects (s : State) : List Effect := [.claim s.cfg.claimTag s.sampled.claimTimeout, .flush]

/-- The reset values of the block's registers on a platform (R36). -/
def Registers.reset (c : Config) : Registers where
  state := .idle
  count := 0
  chk := 0
  idx := 0
  r := 0
  g := 0
  bin := false
  baud := c.defaultBaud
  continuous := false
  lastToken := c.tokenType.value c.tokenReset
  forceReconnect := false

/-- The bytes the structured-request collaborator sends for its outcome, the transmit clause of the guard being open or
not (R133). -/
def replyBytes (c : Config) (transmitOpen : Bool) (d : RequestDraw) : List Byte :=
  match d.outcome with
  | .exhausted => c.errNobufReply
  | .malformed => []
  | .okQuiet => []
  | .okVerbose => if transmitOpen then d.reply else []

/-- The error a structured request's outcome is labelled with (R274, R275). -/
def replyErrors : RequestOutcome → List ErrorKind
  | .exhausted => [.resourceExhausted]
  | .malformed => [.deserialization]
  | .okQuiet => []
  | .okVerbose => []

/-- The eight baud commands with the rates of R214 to R221. -/
def baudCommands : List (Instr × Byte × Rate) :=
  [(.cmdBaud0, 0xB0, 115200), (.cmdBaud1, 0xB1, 230400), (.cmdBaud2, 0xB2, 460800), (.cmdBaud3, 0xB3, 500000)] ++
    [(.cmdBaud4, 0xB4, 576000), (.cmdBaud5, 0xB5, 921600), (.cmdBaud6, 0xB6, 1000000), (.cmdBaud7, 0xB7, 1500000)]

/-! ## Invariants -/

/-- The cells and the shown image are in canonical form and list no byte outside the sink (R58, R60, R62, R67). -/
structure MemoryInv (s : State) : Prop where
  canonical : Memory.wf s.mem = true
  shownCanonical : Memory.wf s.shown = true
  inSink : ∀ c ∈ s.mem, c.1 < 4 * s.cfg.pixelCount
  shownInSink : ∀ c ∈ s.shown, c.1 < 4 * s.cfg.pixelCount

/-- The registers' invariant: R37 (2) to (7), R23, R24, R25 and R28, made inductive by saying what the header positions
hold. -/
structure RegisterInv (s : State) : Prop where
  /-- R37 (2), and the header positions before a field has been read. -/
  clear : s.state ∈ [.idle, .thM2, .thM3, .thCntHi, .binType, .binLenHi] → s.frameClear
  /-- Between the two bytes of a count or length field `count` holds the high byte only (R95). -/
  highOnly : s.state = .thCntLo ∨ s.state = .binLenLo → loByte s.count = 0
  /-- After count-high the accumulator is count-high (R85). -/
  accumulator : s.state = .thCntLo → s.chk = hiByte s.count
  /-- After count-low the accumulator is `hi xor lo xor 0x55` of the wire field, which is one less than `count` (R85). -/
  checksum : s.state = .thChk → s.chk = hiByte (s.count - 1) ^^^ loByte (s.count - 1) ^^^ 0x55
  /-- No pixel has been started before the pixel positions. -/
  noPixelYet : ¬ s.inPixel → s.idx = 0 ∧ s.r = 0 ∧ s.g = 0
  /-- R37 (3) and R25: at least one pixel remains, and the index cannot wrap. -/
  remaining : s.inPixel → 1 ≤ s.count.toNat ∧ s.idx.toNat + s.count.toNat ≤ 65535
  /-- R37 (4). -/
  binInPixel : s.bin = true → s.inPixel
  /-- R37 (5), and at most 21845 pixels in a binary frame (R87). -/
  binNoChecksum : s.bin = true → s.chk = 0 ∧ s.idx.toNat + s.count.toNat ≤ 21845
  /-- The binary header never has a checksum (R24). -/
  lengthNoChecksum : s.state = .binLenLo → s.chk = 0
  /-- R28, R37 (6). -/
  baudLegal : s.baud = s.cfg.defaultBaud ∨ s.baud ∈ baudTable
  /-- `baud` is the rate the link is opened at (R28). -/
  baudIsLinkRate : s.linkRate = s.baud
  /-- The sink's token and `last_token` are values of `TOKEN` (R6, R30, R63). -/
  tokensInType : s.cfg.tokenType.has s.token = true ∧ s.cfg.tokenType.has s.lastToken = true
  /-- R37 (7). -/
  continuousIdle : s.continuous = true → s.state = .idle

/-! ## Runs of byte steps -/

/-- The result of a byte step whose instruction completes. -/
def afterExec (i : Instr) (s : State) : State :=
  match exec i s with
  | .next t => t
  | .fault _ => s
  | .refused _ => s

/-- Up to `n` byte steps from the head of RX, as the loop of R112 makes them when the budget never fires. -/
def drain : Nat → State → State
  | 0, s => s
  | n + 1, s =>
    match s.rx with
    | [] => s
    | b :: _ => drain n (afterExec (decode s.state b) s)

/-! ## The frames of the pixel protocols -/

/-- A pixel on the wire: red, green, blue (R64). -/
structure Rgb where
  r : Byte
  g : Byte
  b : Byte
  deriving DecidableEq, Repr

/-- Pixel data on the wire (R83, R86). -/
def pixelBytes : List Rgb → List Byte
  | [] => []
  | p :: ps => p.r :: p.g :: p.b :: pixelBytes ps

/-- `TEXTFRAME` (R83, R97): the count field is one less than the number of pixels, modulo 2^16. -/
def textFrame (c : Config) (ps : List Rgb) : List Byte :=
  let field : Half := BitVec.ofNat 16 ps.length - 1
  [0x41, c.thM2, c.thM3, hiByte field, loByte field, hiByte field ^^^ loByte field ^^^ 0x55] ++ pixelBytes ps

/-- The header of a binary data frame with length field `len`; a `BINFRAME` has `len = 3 * n` for its `n` pixels
(R86, R97). -/
def binHeader (len : Half) : List Byte := [0xC9, 0xDA, hiByte len, loByte len]

/-- The cell a pixel of a frame is written as (R192). -/
def wirePixel (c : Config) (bin : Bool) (p : Rgb) : Pixel := pixelToWrite bin c.binWhiteIn p.r p.g p.b

/-- The writes of a frame's pixels in the trace, from index `i` on (R196). -/
def writeEffects (c : Config) (bin : Bool) : Half → List Rgb → List Effect
  | _, [] => []
  | i, p :: ps => .write i (wirePixel c bin p) :: writeEffects c bin (i + 1) ps

/-- The sink's memory after a frame's pixels have been written from index `i` on (R59, R60). -/
def storePixels (c : Config) (bin : Bool) : Memory → Half → List Rgb → Memory
  | m, _, [] => m
  | m, i, p :: ps => storePixels c bin (sinkStore c.pixelCount m i.toNat (wirePixel c bin p)) (i + 1) ps

/-- The pixels of a frame have been received whole: all written in order from index `i` on, then one claim and one flush,
nothing sent, the block idle, the rest of RX unread, and continuous mode as `cont` says (R155, R196). -/
structure PixelsDone (s t : State) (bin : Bool) (i : Half) (cont : Bool) (ps : List Rgb) (rest : List Byte) : Prop where
  rx : t.rx = rest
  trace : t.trace = s.trace ++ writeEffects s.cfg bin i ps ++ commitEffects s
  mem : t.mem = storePixels s.cfg bin s.mem i ps
  registers : t.registers = { s.registers.cleared with continuous := cont }
  committed : Committed s t
  surroundings : SameSurroundings s t
  errors : t.errors = s.errors

/-- A frame of this block has been received whole: its pixels from index 0 on, and continuous mode off (R155, R196). -/
abbrev FrameDone (s t : State) (bin : Bool) (ps : List Rgb) (rest : List Byte) : Prop :=
  PixelsDone s t bin 0 false ps rest

/-- How many channel bytes of the pixel being assembled have been received (R190 to R192). -/
def channelsHeld : DecoderState → Nat
  | .pxG => 1
  | .pxB => 2
  | _ => 0

/-- The number a string of ASCII digits denotes. -/
def digitsValue (ds : List Byte) : Nat := ds.foldl (fun n d => 10 * n + (d.toNat - 0x30)) 0

/-- The pixels a binary readback frame carries: the cells with their white added (R250). -/
def readbackPixels (n : Nat) (m : Memory) : List Rgb :=
  (List.range n).map (fun i =>
    { r := (composite (sinkRead m i)).r, g := (composite (sinkRead m i)).g, b := (composite (sinkRead m i)).b })

/-! ## What an observer sees -/

/-- The trace without the diagnostic notes (R117). -/
def withoutDiag (es : List Effect) : List Effect :=
  es.filter (fun e => match e with | .diag _ => false | _ => true)

/-- The trace without the diagnostic notes and the bytes sent: what neither the budget guard nor the scheduler adds
(R117). -/
def withoutOutput (es : List Effect) : List Effect :=
  es.filter (fun e => match e with | .diag _ => false | .tx _ => false | _ => true)

/-- The trace, notes aside, of a run that has handled `n` bytes, however it was cut into invocations: the effects of the
byte steps in order and, between two of them, whole frames of the scheduler that show the cells as they were at that
moment, while continuous mode was on (R117, R255). -/
inductive CutTrace (s : State) : Nat → List Effect → Prop where
  | start : CutTrace s 0 (withoutDiag s.trace)
  | byte (n : Nat) (es fx : List Effect) : CutTrace s n es →
      withoutDiag (drain (n + 1) s).trace = withoutDiag (drain n s).trace ++ fx → CutTrace s (n + 1) (es ++ fx)
  | frame (n : Nat) (es : List Effect) : CutTrace s n es → (drain n s).continuous = true →
      CutTrace s n (es ++ (readbackBinary s.cfg.pixelCount (drain n s).mem).map Effect.tx)

/-- No hand-off is decoded while the bytes of RX are handled one after another: a byte `0x49` or `0x7B` inside a frame is
none (R117, R134). -/
def NoHandoff (s : State) : Prop :=
  ∀ (n : Nat) (b : Byte) (rest : List Byte), (drain n s).rx = b :: rest →
    decode (drain n s).state b ≠ .pairHandoff ∧ decode (drain n s).state b ≠ .reqHandoff

/-- The registers but for the scheduler's own, `last_token` (R30). -/
def Registers.decoder (r : Registers) : Registers := { r with lastToken := 0 }

/-- The position after a byte, as R38's table lists it. -/
def transition (s : State) (b : Byte) : DecoderState :=
  match s.state with
  | .idle => if b = 0x41 then .thM2 else if b = 0xC9 then .binType else .idle
  | .thM2 => if b = s.cfg.thM2 then .thM3 else .idle
  | .thM3 => if b = s.cfg.thM3 then .thCntHi else .idle
  | .thCntHi => .thCntLo
  | .thCntLo => .thChk
  | .thChk => if b = s.chk ∧ s.count ≠ 0 then .pxR else .idle
  | .binType => if b = 0xDA then .binLenHi else .idle
  | .binLenHi => .binLenLo
  | .binLenLo => if 3 ≤ (s.count ||| b.zeroExtend 16).toNat then .pxR else .idle
  | .pxR => .pxG
  | .pxG => .pxB
  | .pxB => if s.count = 1 then .idle else .pxR

end Sys2Proof.Machine
end

