-- ==== Sys2Proof/Certificates/Slice0/Obligations.lean ====
section
/-! DEFINITION. The statements for the provers. Each docstring names the rule or the section of spec/ it formalises; D<n>
is a decision of 92_eei_decisions.md, which is the spec's own choice and not the source's. -/

open Sys2Proof Sys2Proof.Machine

/-! ## Reset -/

/-- 10_state.md section 5: the reset table. All values but `state`, FrameContext and `baud` are the spec's decision D20. -/
def Obligations.ResetLeavesTheResetTable : Prop :=
  State.reset.registers = Registers.reset State.reset.cfg ∧ State.reset.phase = .between

/-- 70_reset_and_hazards.md section 1: every register takes its reset value (D20 for those the source does not state). RX,
TX, PixelSink and RealtimeClaim are not touched. The rest is the model's reading (assumption log 18): an invocation in
progress is over, the link is open at `DEFAULT_BAUD` again and a pending restart is gone, while the line, the host's side
and what has been observed stay as they are. -/
def Obligations.ResetInputRestoresTheRegisters : Prop :=
  ∀ (s : State) (ms : List Move), s.schedule = .resetInput :: ms →
    ∃ t, step s = .next t ∧ t.registers = Registers.reset s.cfg ∧ t.rx = s.rx ∧ t.tx = s.tx ∧ SameSink s t ∧
      t.phase = .between ∧ t.linkRate = s.cfg.defaultBaud ∧ t.restartPending = false ∧
      t.cfg = s.cfg ∧ t.sampled = s.sampled ∧ t.start = s.start ∧ t.line = s.line ∧ t.inputs = s.inputs ∧
      t.now = s.now ∧ t.schedule = ms ∧ t.draws = s.draws ∧ t.trace = s.trace ∧ t.errors = s.errors

/-- 70_reset_and_hazards.md section 1: the restart a boot toggle has scheduled is a reset; without one nothing happens
(that a restart comes as a move of its own, and forgets the pending one, is assumption log 19). -/
def Obligations.RestartNeedsASchedule : Prop :=
  ∀ (s : State) (ms : List Move), s.schedule = .restart :: ms →
    (s.restartPending = false → step s = .next { s with schedule := ms }) ∧
    (s.restartPending = true → ∃ t, step s = .next t ∧ t.registers = Registers.reset s.cfg ∧ t.restartPending = false)

/-! ## Lead bytes -/

/-- R130, R131. -/
def Obligations.FrameStartsEnterTheirDecoders : Prop :=
  decode .idle 0x41 = .thStart ∧ decode .idle 0xC9 = .binStart ∧
  ∀ s : State,
    exec .thStart s = .next { s with state := .thM2, continuous := false, rx := s.rx.tail } ∧
    exec .binStart s = .next { s with state := .binType, continuous := false, rx := s.rx.tail }

/-- 41_dispatcher.md, PAIR.HANDOFF, with D12: the collaborator takes at least one byte, the invocation is over, the
block's registers, `continuous` among them, are as before. -/
def Obligations.PairingHandoffEndsTheInvocation : Prop :=
  decode .idle 0x49 = .pairHandoff ∧
  ∀ s : State, ∃ t k sent,
    exec .pairHandoff s = .next t ∧ t.registers = s.registers ∧ t.phase = .between ∧
    1 ≤ k ∧ (s.rx ≠ [] → k ≤ s.rx.length) ∧ t.rx = s.rx.drop k ∧
    t.tx = s.tx ++ sent ∧ t.trace = s.trace ++ [.pair] ∧
    t.cfg = s.cfg ∧ t.sampled = s.sampled ∧ t.start = s.start ∧ t.line = s.line ∧ t.linkRate = s.linkRate ∧
    t.restartPending = s.restartPending ∧ t.inputs = s.inputs ∧ t.now = s.now ∧ t.schedule = s.schedule ∧
    t.errors = s.errors

/-- 41_dispatcher.md, REQ.HANDOFF, with D13, D14 and D39: the collaborator takes at least one byte and sends what its
outcome asks for; the loop goes on, and no register changes but for the continuous-clear. -/
def Obligations.RequestHandoffSendsItsReply : Prop :=
  decode .idle 0x7B = .reqHandoff ∧
  ∀ s : State, ∃ t k d,
    exec .reqHandoff s = .next t ∧ t.registers = { s.registers with continuous := false } ∧
    1 ≤ k ∧ (s.rx ≠ [] → k ≤ s.rx.length) ∧ t.rx = s.rx.drop k ∧
    t.tx = s.tx ++ replyBytes s.cfg (!s.sampled.txClaimed || s.sampled.txOwnerDiag) d ∧
    t.trace = s.trace ++ .request :: (replyBytes s.cfg (!s.sampled.txClaimed || s.sampled.txOwnerDiag) d).map Effect.tx ∧
    t.errors = s.errors ++ replyErrors d.outcome ∧
    t.cfg = s.cfg ∧ t.phase = s.phase ∧ t.sampled = s.sampled ∧ t.start = s.start ∧ t.line = s.line ∧
    t.linkRate = s.linkRate ∧ t.restartPending = s.restartPending ∧ t.inputs = s.inputs ∧ t.now = s.now ∧
    t.schedule = s.schedule

/-! ## Commands -/

/-- R210. -/
def Obligations.VersionQueryReplies : Prop :=
  decode .idle 0x76 = .cmdVersion ∧
  ∀ s : State, exec .cmdVersion s = .next
    { s with
      tx := s.tx ++ s.cfg.versionReply, trace := s.trace ++ s.cfg.versionReply.map Effect.tx
      continuous := false, rx := s.rx.tail }

/-- 45_commands.md, CMD.BOOT, with D26 and D36: without the capability the byte is noise; with it the collaborator's
finding decides between a scheduled restart and a report, and no register changes but for the continuous-clear. The clause
that tells the three outcomes apart is a choice: that the running image is compared with the image configured to boot is
this spec's own reading of the source, and that the outcome is computed from such a finding is the model's (assumption log
22). That a switch leaves a restart pending, to come later as a move of its own, is assumption log 19. -/
def Obligations.BootToggleSchedulesOrReports : Prop :=
  decode .idle 0x5E = .cmdBoot ∧
  (∀ d : BootDraw,
    (bootToggle d = .switchScheduled ↔ d.runningImage = d.bootImage ∧ d.marked = true) ∧
    (bootToggle d = .markFailed ↔ d.runningImage = d.bootImage ∧ d.marked = false) ∧
    (bootToggle d = .alreadyMismatched ↔ d.runningImage ≠ d.bootImage)) ∧
  ∀ s : State,
    (s.cfg.bootCap = false → exec .cmdBoot s = .next { s with continuous := false, rx := s.rx.tail }) ∧
    (s.cfg.bootCap = true → ∃ (d : BootDraw) (n : Nat), exec .cmdBoot s = .next
      (if bootToggle d = .switchScheduled then
        { s with
          trace := s.trace ++ [.boot], restartPending := true, draws := n, continuous := false, rx := s.rx.tail }
      else
        { s with
          trace := s.trace ++ [.boot, .diag .bootReport], errors := s.errors ++ [.privilegedOperationFailure]
          draws := n, continuous := false, rx := s.rx.tail }))

/-- R212. -/
def Obligations.ReconnectSetsItsFlag : Prop :=
  decode .idle 0x58 = .cmdReconnect ∧
  ∀ s : State, exec .cmdReconnect s = .next
    { s with
      forceReconnect := true, trace := s.trace ++ [.reconnect], continuous := false, rx := s.rx.tail }

/-- 45_commands.md, the baud commands, with D22 (the order, and RX kept): the register, then everything pending leaves at the old rate, then the link reopens at the new one; a
request for the present rate, or for one below `BAUD_MIN`, does nothing, and no rate of the table is below it (D21). -/
def Obligations.BaudCommandsReopenTheLink : Prop :=
  (∀ (target : Rate) (s : State),
    (target = s.baud ∨ target.toNat < s.cfg.baudMin.val → baudRequest target s = s) ∧
    (target ≠ s.baud → s.cfg.baudMin.val ≤ target.toNat → baudRequest target s =
      { s with
        baud := target, tx := [], line := s.line ++ s.tx.map (fun b => { byte := b, rate := s.linkRate })
        linkRate := target, trace := s.trace ++ [.drain, .reopen target] })) ∧
  ∀ c ∈ baudCommands, decode .idle c.2.1 = c.1 ∧
    ∀ s : State,
      (c.2.2 = s.baud → exec c.1 s = .next { s with continuous := false, rx := s.rx.tail }) ∧
      (c.2.2 ≠ s.baud → exec c.1 s = .next
        { s with
          baud := c.2.2, tx := [], line := s.line ++ s.tx.map (fun b => { byte := b, rate := s.linkRate })
          linkRate := c.2.2, trace := s.trace ++ [.drain, .reopen c.2.2], continuous := false, rx := s.rx.tail })

/-- R222, R223: the readback frame is sent whole, `last_token` is not written. -/
def Obligations.ReadbackCommandsSendTheCells : Prop :=
  decode .idle 0x6C = .cmdReadText ∧ decode .idle 0x4C = .cmdReadBin ∧
  ∀ s : State,
    exec .cmdReadText s = .next
      { s with
        tx := s.tx ++ readbackText s.cfg.pixelCount s.mem s.cfg.newline
        trace := s.trace ++ (readbackText s.cfg.pixelCount s.mem s.cfg.newline).map Effect.tx
        continuous := false, rx := s.rx.tail } ∧
    exec .cmdReadBin s = .next
      { s with
        tx := s.tx ++ readbackBinary s.cfg.pixelCount s.mem
        trace := s.trace ++ (readbackBinary s.cfg.pixelCount s.mem).map Effect.tx
        continuous := false, rx := s.rx.tail }

/-- R224, R225. -/
def Obligations.ContinuousModeCommands : Prop :=
  decode .idle 0x6F = .cmdContOff ∧ decode .idle 0x4F = .cmdContOn ∧
  ∀ s : State,
    exec .cmdContOff s = .next { s with continuous := false, rx := s.rx.tail } ∧
    exec .cmdContOn s = .next { s with continuous := true, rx := s.rx.tail }

/-- R226: the 19 lead values are distinct, and every other byte is discarded with the continuous-clear as its only
effect. -/
def Obligations.NoiseIsDiscarded : Prop :=
  leadValues.length = 19 ∧ leadValues.Nodup ∧
  ∀ b : Byte, b ∉ leadValues →
    decode .idle b = .noise b ∧
    ∀ s : State, exec (.noise b) s = .next { s with continuous := false, rx := s.rx.tail }

/-! ## The text header -/

/-- 42_text_header.md, TH.M2 and TH.M3, with D3 (the magic bytes are parameters) and D10 (a mismatching byte is consumed):
a mismatch is error entry, silent and without a trace. -/
def Obligations.TextMagicBytesAdvanceOrReset : Prop :=
  ∀ (s : State) (b : Byte),
    decode .thM2 b = .thM2 b ∧ decode .thM3 b = .thM3 b ∧
    (b = s.cfg.thM2 → exec (.thM2 b) s = .next
      { s with state := .thM3, continuous := s.continuous && b == 0x4F, rx := s.rx.tail }) ∧
    (b ≠ s.cfg.thM2 → exec (.thM2 b) s = .next
      { s with
        state := .idle, count := 0, chk := 0, idx := 0, r := 0, g := 0, bin := false
        errors := s.errors ++ [.framing], continuous := s.continuous && b == 0x4F, rx := s.rx.tail }) ∧
    (b = s.cfg.thM3 → exec (.thM3 b) s = .next
      { s with state := .thCntHi, continuous := s.continuous && b == 0x4F, rx := s.rx.tail }) ∧
    (b ≠ s.cfg.thM3 → exec (.thM3 b) s = .next
      { s with
        state := .idle, count := 0, chk := 0, idx := 0, r := 0, g := 0, bin := false
        errors := s.errors ++ [.framing], continuous := s.continuous && b == 0x4F, rx := s.rx.tail })

/-- 42_text_header.md, TH.CNT_HI and TH.CNT_LO: the count field and the accumulator, with the one wrap to zero, which is
the spec's decision D4; the continuous-clear in a header position is D11. -/
def Obligations.TextCountBytesAreStored : Prop :=
  (∀ (s : State) (b : Byte),
    decode .thCntHi b = .thCntHi b ∧ decode .thCntLo b = .thCntLo b ∧
    exec (.thCntHi b) s = .next
      { s with
        count := b.zeroExtend 16 <<< 8, chk := b, state := .thCntLo
        continuous := s.continuous && b == 0x4F, rx := s.rx.tail } ∧
    exec (.thCntLo b) s = .next
      { s with
        count := s.count + b.zeroExtend 16 + 1, chk := s.chk ^^^ b ^^^ 0x55, state := .thChk
        continuous := s.continuous && b == 0x4F, rx := s.rx.tail }) ∧
  ∀ hi lo : Byte, (hi.zeroExtend 16 <<< 8 : Half) + lo.zeroExtend 16 + 1 = 0 ↔ hi = 0xFF ∧ lo = 0xFF

/-- 42_text_header.md, TH.CHK, with D5 (a frame of no pixels commits in this very byte step). -/
def Obligations.ChecksumByteDecidesTheFrame : Prop :=
  ∀ (s : State) (b : Byte),
    decode .thChk b = .thChk b ∧
    (b ≠ s.chk → exec (.thChk b) s = .next
      { s with
        state := .idle, count := 0, chk := 0, idx := 0, r := 0, g := 0, bin := false
        errors := s.errors ++ [.checksum], continuous := s.continuous && b == 0x4F, rx := s.rx.tail }) ∧
    (b = s.chk → s.count ≠ 0 → exec (.thChk b) s = .next
      { s with idx := 0, state := .pxR, continuous := s.continuous && b == 0x4F, rx := s.rx.tail }) ∧
    (b = s.chk → s.count = 0 → ∃ t, exec (.thChk b) s = .next t ∧
      t.registers = { s.registers.cleared with continuous := s.continuous && b == 0x4F } ∧ t.rx = s.rx.tail ∧
      t.trace = s.trace ++ commitEffects s ∧ t.mem = s.mem ∧ Committed s t ∧ SameSurroundings s t ∧
      t.errors = s.errors)

/-- 30_encoding.md section 3, with D4 (arithmetic modulo 2^16): from the two count bytes, the count is `((hi << 8) + lo + 1) mod 2^16`, and exactly the byte
`hi xor lo xor 0x55` is accepted after them. -/
def Obligations.TextCountAndChecksumFromTheWire : Prop :=
  ∀ (s : State) (hi lo b : Byte),
    let t := afterExec (.thCntLo lo) (afterExec (.thCntHi hi) s)
    t.count.toNat = (256 * hi.toNat + lo.toNat + 1) % 65536 ∧ t.chk = hi ^^^ lo ^^^ 0x55 ∧
    ((afterExec (.thChk b) t).errors = t.errors ↔ b = hi ^^^ lo ^^^ 0x55)

/-! ## The binary header -/

/-- 43_binary.md, BIN.DATA and BIN.PING; that a byte clears continuous mode in this position too is D11. -/
def Obligations.BinaryDataAndPing : Prop :=
  decode .binType 0xDA = .binData ∧ decode .binType 0xAA = .binPing ∧ decode .idle 0xAA = .noise 0xAA ∧
  ∀ s : State,
    exec .binData s = .next { s with state := .binLenHi, continuous := false, rx := s.rx.tail } ∧
    exec .binPing s = .next
      { s with
        tx := s.tx ++ [0xAC], trace := s.trace ++ [.tx 0xAC]
        state := .idle, count := 0, chk := 0, idx := 0, r := 0, g := 0, bin := false
        continuous := false, rx := s.rx.tail }

/-- 43_binary.md, BIN.UNSUPPORTED, with D10: every other sub-command is error entry, and the byte is consumed. -/
def Obligations.UnsupportedSubCommandResets : Prop :=
  ∀ (s : State) (b : Byte), b ≠ 0xDA → b ≠ 0xAA →
    decode .binType b = .binUnsupported b ∧
    exec (.binUnsupported b) s = .next
      { s with
        state := .idle, count := 0, chk := 0, idx := 0, r := 0, g := 0, bin := false
        errors := s.errors ++ [.unsupportedSubcommand], continuous := s.continuous && b == 0x4F, rx := s.rx.tail }

/-- 43_binary.md, BIN.LEN_HI and BIN.LEN_LO, with D6 (a frame shorter than three bytes commits at once) and D8 (where the
length-high byte is kept, and the register `bin`). -/
def Obligations.BinaryLengthBytesBeginTheFrame : Prop :=
  ∀ (s : State) (b : Byte),
    decode .binLenHi b = .binLenHi b ∧ decode .binLenLo b = .binLenLo b ∧
    exec (.binLenHi b) s = .next
      { s with
        count := b.zeroExtend 16 <<< 8, state := .binLenLo, continuous := s.continuous && b == 0x4F
        rx := s.rx.tail } ∧
    ((s.count ||| b.zeroExtend 16) / 3 ≠ 0 → exec (.binLenLo b) s = .next
      { s with
        count := (s.count ||| b.zeroExtend 16) / 3, idx := 0, bin := true, state := .pxR
        continuous := s.continuous && b == 0x4F, rx := s.rx.tail }) ∧
    ((s.count ||| b.zeroExtend 16) / 3 = 0 → ∃ t, exec (.binLenLo b) s = .next t ∧
      t.registers = { s.registers.cleared with continuous := s.continuous && b == 0x4F } ∧ t.rx = s.rx.tail ∧
      t.trace = s.trace ++ commitEffects s ∧ t.mem = s.mem ∧ Committed s t ∧ SameSurroundings s t ∧
      t.errors = s.errors)

/-- 30_encoding.md section 4: `L = (hi << 8) | lo`, `N = L div 3`; a frame of at least one pixel waits for `N` pixels, a shorter one has been
committed (the commit of a frame shorter than three bytes is the spec's decision D6). -/
def Obligations.BinaryLengthFromTheWire : Prop :=
  ∀ (s : State) (hi lo : Byte),
    let t := afterExec (.binLenLo lo) (afterExec (.binLenHi hi) s)
    (3 ≤ 256 * hi.toNat + lo.toNat →
      t.state = .pxR ∧ t.bin = true ∧ t.idx = 0 ∧ t.count.toNat = (256 * hi.toNat + lo.toNat) / 3 ∧
      t.trace = s.trace) ∧
    (256 * hi.toNat + lo.toNat < 3 →
      t.state = .idle ∧ t.frameClear ∧ t.mem = s.mem ∧ t.trace = s.trace ++ commitEffects s)

/-! ## Pixel data -/

/-- 44_pixel_data.md, PX.R and PX.G: every byte is a channel value, whatever it means elsewhere; the continuous-clear in a
pixel position is D11. -/
def Obligations.ColourBytesAreHeld : Prop :=
  ∀ (s : State) (b : Byte),
    decode .pxR b = .pxR b ∧ decode .pxG b = .pxG b ∧
    exec (.pxR b) s = .next
      { s with r := b, state := .pxG, continuous := s.continuous && b == 0x4F, rx := s.rx.tail } ∧
    exec (.pxG b) s = .next
      { s with g := b, state := .pxB, continuous := s.continuous && b == 0x4F, rx := s.rx.tail }

/-- 44_pixel_data.md, PX.B before the last pixel, with D7 (the white written is 0, and what a binary frame composites) and
D9 (a write beyond the sink is dropped): the pixel reads back from its cell, every byte outside the four of that cell is
as before, and nothing is claimed or flushed. -/
def Obligations.BlueByteWritesItsCell : Prop :=
  ∀ (s : State) (b : Byte), Memory.wf s.mem = true → s.count - 1 ≠ 0 →
    decode .pxB b = .pxB b ∧
    ∃ t, exec (.pxB b) s = .next t ∧
      t.registers = { s.registers with
        state := .pxR, idx := s.idx + 1, count := s.count - 1, continuous := s.continuous && b == 0x4F } ∧
      t.rx = s.rx.tail ∧ t.trace = s.trace ++ [.write s.idx (wirePixel s.cfg s.bin { r := s.r, g := s.g, b := b })] ∧
      (s.idx.toNat < s.cfg.pixelCount →
        sinkRead t.mem s.idx.toNat = wirePixel s.cfg s.bin { r := s.r, g := s.g, b := b }) ∧
      (s.cfg.pixelCount ≤ s.idx.toNat → t.mem = s.mem) ∧
      (∀ a : Nat, a < chanAddr s.idx.toNat 0 ∨ chanAddr s.idx.toNat 3 < a → Memory.read t.mem a = Memory.read s.mem a) ∧
      t.shown = s.shown ∧ t.claim = s.claim ∧ t.now = s.now ∧ t.errors = s.errors ∧ SameSurroundings s t

/-- 44_pixel_data.md, PX.B for the last pixel, with D7, D9, D15 (one tag) and D16 (claim, then flush, then idle). -/
def Obligations.LastBlueByteCommits : Prop :=
  ∀ (s : State) (b : Byte), Memory.wf s.mem = true → s.count - 1 = 0 →
    ∃ t, exec (.pxB b) s = .next t ∧
      t.registers = { s.registers.cleared with continuous := s.continuous && b == 0x4F } ∧
      t.rx = s.rx.tail ∧
      t.trace = s.trace ++ .write s.idx (wirePixel s.cfg s.bin { r := s.r, g := s.g, b := b }) :: commitEffects s ∧
      (s.idx.toNat < s.cfg.pixelCount →
        sinkRead t.mem s.idx.toNat = wirePixel s.cfg s.bin { r := s.r, g := s.g, b := b }) ∧
      (s.cfg.pixelCount ≤ s.idx.toNat → t.mem = s.mem) ∧
      (∀ a : Nat, a < chanAddr s.idx.toNat 0 ∨ chanAddr s.idx.toNat 3 < a → Memory.read t.mem a = Memory.read s.mem a) ∧
      Committed s t ∧ t.errors = s.errors ∧ SameSurroundings s t

/-- 44_pixel_data.md, white compositing, with D7: each channel is `min(255, channel + white)`; the value a pixel is written
as has white 0, is the wire value in a text frame, and in a binary frame the wire value with `BIN_WHITE_IN` added to each
channel, which is the wire value again when `BIN_WHITE_IN` is 0. -/
def Obligations.CompositingSaturates : Prop :=
  (∀ p : Pixel, (composite p).r.toNat = min 255 (p.r.toNat + p.w.toNat) ∧
    (composite p).g.toNat = min 255 (p.g.toNat + p.w.toNat) ∧ (composite p).b.toNat = min 255 (p.b.toNat + p.w.toNat)) ∧
  (∀ (c : Config) (bin : Bool) (p : Rgb), (wirePixel c bin p).w = 0) ∧
  (∀ (c : Config) (p : Rgb),
    wirePixel c true p = composite { r := p.r, g := p.g, b := p.b, w := c.binWhiteIn } ∧
    (wirePixel c true p).r.toNat = min 255 (p.r.toNat + c.binWhiteIn.toNat) ∧
    (wirePixel c true p).g.toNat = min 255 (p.g.toNat + c.binWhiteIn.toNat) ∧
    (wirePixel c true p).b.toNat = min 255 (p.b.toNat + c.binWhiteIn.toNat)) ∧
  ∀ (c : Config) (bin : Bool) (p : Rgb), bin = false ∨ c.binWhiteIn = 0 →
    wirePixel c bin p = { r := p.r, g := p.g, b := p.b, w := 0 }

/-! ## Rules about every byte -/

/-- 20_memory.md section 2, with D10, D12 and D13: a byte step removes its own byte from RX and no other; a hand-off
removes at least one byte, beginning with the lead byte. -/
def Obligations.EveryByteStepConsumes : Prop :=
  ∀ (s t : State) (b : Byte) (rest : List Byte), s.rx = b :: rest → exec (decode s.state b) s = .next t →
    (s.state = .idle ∧ (b = 0x49 ∨ b = 0x7B) → ∃ k, 1 ≤ k ∧ k ≤ s.rx.length ∧ t.rx = s.rx.drop k) ∧
    (¬ (s.state = .idle ∧ (b = 0x49 ∨ b = 0x7B)) → t.rx = rest)

/-- 45_commands.md, the continuous-mode side effect, with D11 (every byte in every state) and D12 (not the pairing lead
byte). -/
def Obligations.EveryOtherByteEndsContinuousMode : Prop :=
  ∀ (s t : State) (b : Byte), exec (decode s.state b) s = .next t →
    (b ≠ 0x4F → ¬ (s.state = .idle ∧ b = 0x49) → t.continuous = false) ∧
    (b = 0x4F → s.state = .idle → t.continuous = true) ∧
    (b = 0x4F → s.state ≠ .idle → t.continuous = s.continuous) ∧
    (s.state = .idle → b = 0x49 → t.continuous = s.continuous)

/-- 10_state.md section 6: the transition index. -/
def Obligations.PositionsFollowTheIndex : Prop :=
  ∀ (s t : State) (b : Byte), exec (decode s.state b) s = .next t → t.state = transition s b

/-- 41_dispatcher.md, the state discipline: of the 256 lead bytes only `0x41` and `0xC9` leave `S_IDLE`, and none of them
writes FrameContext. -/
def Obligations.OnlyTwoLeadBytesLeaveIdle : Prop :=
  ∀ (s t : State) (b : Byte), s.state = .idle → exec (decode s.state b) s = .next t →
    (t.state = .idle ↔ b ≠ 0x41 ∧ b ≠ 0xC9) ∧
    t.count = s.count ∧ t.chk = s.chk ∧ t.idx = s.idx ∧ t.r = s.r ∧ t.g = s.g ∧ t.bin = s.bin

/-- 10_state.md section 3: who writes the control registers. `last_token` is the scheduler's, `baud` the baud commands',
the reconnect flag is set by one command and never cleared by the block, and continuous mode is entered by `O` only. -/
def Obligations.ControlRegistersHaveTheirWriters : Prop :=
  ∀ (i : Instr) (s t : State), exec i s = .next t →
    t.lastToken = s.lastToken ∧
    (t.baud = s.baud ∨ ∃ c ∈ baudCommands, c.1 = i ∧ t.baud = c.2.2) ∧
    t.forceReconnect = (s.forceReconnect || decide (i = .cmdReconnect)) ∧
    (t.continuous = true → s.continuous = true ∨ i = .cmdContOn)

/-- 20_memory.md sections 3 and 4: cells are written by `PX.B` and by the hand-off collaborators, the display is flushed
and the claim taken by these and by the two header bytes that can end a frame, and TX is appended to by the ping, the
version query, the readbacks and the collaborators, and drained by the baud commands; every other instruction leaves
the sink, the claim and the link's output as they are. -/
def Obligations.OutputsHaveTheirInstructions : Prop :=
  ∀ (i : Instr) (s t : State), exec i s = .next t →
    ((∀ b, i ≠ .pxB b) → i ≠ .pairHandoff → i ≠ .reqHandoff → t.mem = s.mem) ∧
    ((∀ b, i ≠ .pxB b ∧ i ≠ .thChk b ∧ i ≠ .binLenLo b) → i ≠ .pairHandoff → i ≠ .reqHandoff → SameSink s t) ∧
    (i ∉ [.binPing, .cmdVersion, .cmdReadText, .cmdReadBin, .pairHandoff, .reqHandoff] →
      (∀ c ∈ baudCommands, i ≠ c.1) → t.tx = s.tx ∧ t.line = s.line ∧ t.linkRate = s.linkRate)

/-- 20_memory.md section 4, "The decoder never reads pixel values for decoding decisions": the cells, the displayed image,
the token and the claim do not influence the registers, the bytes taken, or the course of the invocation. That the two
runs agree on the bytes taken, the phase and the error labels is the model's choice: both draw the same free values, since
their counters agree (assumption log 1). -/
def Obligations.PixelsDoNotSteerTheDecoder : Prop :=
  ∀ (i : Instr) (s t t' : State) (m m' : Memory) (k : Token) (c : Option Claim),
    exec i s = .next t → exec i { s with mem := m, shown := m', token := k, claim := c } = .next t' →
    t'.registers = t.registers ∧ t'.rx = t.rx ∧ t'.phase = t.phase ∧ t'.errors = t.errors

/-! ## Readback -/

/-- 30_encoding.md section 5 and 46_readback.md, with D25 (the magic, and a length field of 16 bits): the binary readback
frame, byte by byte. -/
def Obligations.BinaryReadbackLayout : Prop :=
  ∀ (n : Nat) (m : Memory),
    (readbackBinary n m).length = 6 + 3 * n ∧
    (readbackBinary n m)[0]? = some 0xC9 ∧ (readbackBinary n m)[1]? = some 0xDA ∧
    (readbackBinary n m)[2]? = some (BitVec.ofNat 8 (3 * n / 256)) ∧
    (readbackBinary n m)[3]? = some (BitVec.ofNat 8 (3 * n)) ∧
    (∀ k, k < n →
      (readbackBinary n m)[4 + 3 * k]? = some (composite (sinkRead m k)).r ∧
      (readbackBinary n m)[5 + 3 * k]? = some (composite (sinkRead m k)).g ∧
      (readbackBinary n m)[6 + 3 * k]? = some (composite (sinkRead m k)).b) ∧
    (readbackBinary n m)[4 + 3 * n]? = some 0x36 ∧ (readbackBinary n m)[5 + 3 * n]? = some 0x0A

/-- 46_readback.md, with D24: the textual frame is a bracket, the cells' decimal values in order with single commas between
them, a bracket, a newline; of a sink with cells it is between `2 * n + 1` and `11 * n + 1` bytes long, newline apart. -/
def Obligations.TextReadbackShape : Prop :=
  ∀ (n : Nat) (m : Memory) (newline : List Byte),
    readbackText 0 m newline = [0x5B, 0x5D] ++ newline ∧
    (readbackText (n + 1) m newline =
      0x5B :: (((List.range n).flatMap (fun i => decimal (packed (sinkRead m i)) ++ [0x2C])) ++
        decimal (packed (sinkRead m n))) ++ 0x5D :: newline) ∧
    2 * (n + 1) + 1 + newline.length ≤ (readbackText (n + 1) m newline).length ∧
    (readbackText (n + 1) m newline).length ≤ 11 * (n + 1) + 1 + newline.length

/-- 46_readback.md, with D24: the packed colour is `W * 2^24 + R * 2^16 + G * 2^8 + B`, and its decimal digits denote it, are
ASCII digits, at most ten, with no leading zero. -/
def Obligations.DecimalDigitsDenoteTheColour : Prop :=
  (∀ p : Pixel, (packed p).toNat = p.w.toNat * 2 ^ 24 + p.r.toNat * 2 ^ 16 + p.g.toNat * 2 ^ 8 + p.b.toNat) ∧
  ∀ v : BitVec 32,
    digitsValue (decimal v) = v.toNat ∧ (∀ d ∈ decimal v, 0x30 ≤ d.toNat ∧ d.toNat ≤ 0x39) ∧
    1 ≤ (decimal v).length ∧ (decimal v).length ≤ 10 ∧ (v ≠ 0 → (decimal v).head? ≠ some 0x30)

/-! ## The invocation -/

/-- R110. -/
def Obligations.GuardHasFourClauses : Prop :=
  ∀ h : HostInputs, proceed h = true ↔
    h.rxClaimed = false ∧ (h.txClaimed = false ∨ h.txOwnerDiag = true) ∧ h.rtExclusiveOther = false ∧
      h.interactiveBusy = false

/-- 40_guard_and_invocation.md sections 1 and 2, with D17, D18 and D27: with the guard closed a poll changes nothing at all;
with it open the inputs are sampled, `start` is the clock's reading, and the byte loop begins. -/
def Obligations.PollObeysTheGuard : Prop :=
  ∀ s : State, s.schedule = [] → s.phase = .between →
    (proceed s.inputs = false → step s = .next s) ∧
    (proceed s.inputs = true → ∃ (now : Millis) (n : Nat), step s = .next
      { s with sampled := s.inputs, now := now, start := now, phase := .draining, draws := n })

/-- R113 and the host's reading of a table word: a step in the byte loop is `exec` of the instruction the head of RX decodes
to in the present position, followed by what the loop does after a byte; so is the step after `withFetchWord`. -/
def Obligations.StepRunsTheDecodedInstruction : Prop :=
  (∀ (s : State) (b : Byte) (rest : List Byte), s.phase = .draining → s.rx = b :: rest →
    (s.schedule = [] → step s = stepAfterByte (exec (decode s.state b) s)) ∧
    (∀ ms, s.schedule = .run :: ms →
      step s = stepAfterByte (exec (decode s.state b) { s with schedule := ms }))) ∧
  (∀ t : State, stepAfterByte (.next t) = .next (afterByte t)) ∧
  ∀ (s : State) (w : Nat), step (s.withFetchWord 8 w) = stepAfterByte
    (exec (decode (tablePosition (tableByte 8 w)) (tableByte 8 w))
      { s with
        state := tablePosition (tableByte 8 w), rx := tableByte 8 w :: s.rx, phase := .draining })

/-- 40_guard_and_invocation.md section 3, with D18 and D36: after a byte the clock is read; strictly more than 100 ms since
`start` ends the loop with a note; no register changes. After a pairing hand-off there is no test. -/
def Obligations.BudgetIsTestedAfterEachByte : Prop :=
  ∀ t : State,
    (t.phase = .draining → ∃ (now : Millis) (n : Nat), afterByte t =
      if 100 < (now - t.start).toNat then
        { t with now := now, draws := n, trace := t.trace ++ [.diag .budgetNote], phase := .scheduling }
      else { t with now := now, draws := n }) ∧
    (t.phase = .between → afterByte t = t)

/-- 40_guard_and_invocation.md section 2 and 46_readback.md, with D17 and D34: an empty RX ends the byte loop; the scheduler
step then pushes one binary frame if continuous mode is on and the token has changed, records that token, and the
invocation returns. -/
def Obligations.SchedulerStepEndsTheInvocation : Prop :=
  ∀ s : State, s.schedule = [] →
    (s.phase = .draining → s.rx = [] → step s = .next { s with phase := .scheduling }) ∧
    (s.phase = .scheduling → s.continuous = true → s.token ≠ s.lastToken → step s = .next
      { s with
        tx := s.tx ++ readbackBinary s.cfg.pixelCount s.mem
        trace := s.trace ++ (readbackBinary s.cfg.pixelCount s.mem).map Effect.tx
        lastToken := s.token, phase := .between }) ∧
    (s.phase = .scheduling → s.continuous = false ∨ s.token = s.lastToken →
      step s = .next { s with phase := .between })

/-- R118: an overlapping invocation has no meaning; between invocations a poll is the host's to make. -/
def Obligations.OverlappingInvocationIsRefused : Prop :=
  ∀ (s : State) (ms : List Move), s.schedule = .invoke :: ms →
    (s.phase ≠ .between → step s = .refused .overlappingInvocation) ∧
    (s.phase = .between → step s = .next (poll { s with schedule := ms }))

/-- 60_exceptions.md section 1, totality: every step answers a next state, but for an invocation started while another
runs. -/
def Obligations.OnlyAnOverlapStopsTheMachine : Prop :=
  ∀ s : State, (∃ t, step s = .next t) ∨
    (step s = .refused .overlappingInvocation ∧ s.phase ≠ .between ∧ ∃ ms, s.schedule = .invoke :: ms)

/-- 60_exceptions.md section 5 (the block owns its registers) and 20_memory.md sections 2, 3, 4 and 6: but for a reset, which
restores every register (`ResetInputRestoresTheRegisters`, `RestartNeedsASchedule`), the outside world's moves reach the
streams, the sink, the claim, the host's inputs and the reconnect flag, and no other register. Stated for the five moves
that neither reset the block nor let it run. Another source's writes and flushes happen in its own order (assumption log
13); that the moves come from a schedule is assumption log 6. -/
def Obligations.OutsideMovesLeaveTheRegisters : Prop :=
  ∀ (s : State) (ms : List Move),
    (∀ bytes, s.schedule = .arrive bytes :: ms →
      step s = .next { s with schedule := ms, rx := s.rx ++ bytes }) ∧
    (∀ n, s.schedule = .transmit n :: ms → step s = .next
      { s with
        schedule := ms, tx := s.tx.drop n
        line := s.line ++ (s.tx.take n).map (fun b => { byte := b, rate := s.linkRate }) }) ∧
    (∀ h, s.schedule = .inputs h :: ms → step s = .next { s with schedule := ms, inputs := h }) ∧
    (∀ c, s.schedule = .foreign c :: ms → step s = .next
      { s with
        schedule := ms
        mem := (sinkActs s.cfg.pixelCount c.acts s.mem s.shown).1
        shown := (sinkActs s.cfg.pixelCount c.acts s.mem s.shown).2
        token := s.cfg.tokenType.value c.token, claim := c.claim }) ∧
    (s.schedule = .clearReconnect :: ms → step s = .next { s with schedule := ms, forceReconnect := false }) ∧
    (∀ (n : Nat) (mem shown : Memory) (i : Nat) (p : Pixel) (as : List SinkAct),
      sinkActs n [] mem shown = (mem, shown) ∧
      sinkActs n (.write i p :: as) mem shown = sinkActs n as (sinkStore n mem i p) shown ∧
      sinkActs n (.flush :: as) mem shown = sinkActs n as mem mem)

/-! ## Whole-machine rules -/

/-- 60_exceptions.md section 5: `PIXEL_COUNT` is fixed for the session; that every other parameter is fixed too is the
model's choice (assumption log 8). -/
def Obligations.ParametersAreFixed : Prop :=
  ∀ s t : State, step s = .next t → t.cfg = s.cfg

/-- 20_memory.md section 3: TX is a first-in first-out queue that loses nothing: what has left and what is pending only ever
grows at the end, and what has left is never taken back. -/
def Obligations.OutputIsNeverLostOrReordered : Prop :=
  ∀ s t : State, step s = .next t →
    (∃ new, t.line.map LineByte.byte ++ t.tx = s.line.map LineByte.byte ++ s.tx ++ new) ∧ s.line <+: t.line

/-- The reset state meets both invariants (10_state.md section 5; the memory's reset contents are the model's choice,
assumption log 5). -/
def Obligations.ResetMeetsTheInvariants : Prop := RegisterInv State.reset ∧ MemoryInv State.reset

/-- 10_state.md sections 2 and 5: the registers' invariant, kept by every step from every state that meets it. -/
def Obligations.StepKeepsTheRegisterInvariant : Prop :=
  ∀ s t : State, RegisterInv s → step s = .next t → RegisterInv t

/-- 20_memory.md section 4: the cells and the shown image keep their canonical form and the sink's bounds (the form is the
model's, assumption log 4). -/
def Obligations.StepKeepsTheMemoryInvariant : Prop :=
  ∀ s t : State, MemoryInv s → step s = .next t → MemoryInv t

/-! ## Encoding -/

/-- 30_encoding.md: decoding the encoding of a well-formed instruction gives it back, with every operand at every value. -/
def Obligations.DecodeOfEncode : Prop :=
  ∀ i : Instr, i.wellFormed = true → decode (encode i).1 (encode i).2 = i

/-- 30_encoding.md sections 1 and 6: every byte in every position decodes to a well-formed instruction of that position,
whose encoding is that byte. -/
def Obligations.EncodeOfDecode : Prop :=
  ∀ (p : DecoderState) (b : Byte), (decode p b).wellFormed = true ∧ encode (decode p b) = (p, b)

/-- 30_encoding.md section 2: a few words of R81's table and the layouts, bit by bit. -/
def Obligations.SomeWordsDecode : Prop :=
  decode .idle 0b01000001#8 = .thStart ∧ decode .idle 0b11001001#8 = .binStart ∧
  decode .idle 0b10110011#8 = .cmdBaud3 ∧ decode .idle 0b01001111#8 = .cmdContOn ∧
  decode .thM2 0b01100100#8 = .thM2 0x64 ∧ decode .binType 0b11011010#8 = .binData ∧
  decode .pxR 0b01000001#8 = .pxR 0x41 ∧ decode .idle 0b10111000#8 = .noise 0xB8

/-! ## Frames and runs -/

/-- 42_text_header.md, the frame-level property, and 44_pixel_data.md: a well-formed text frame received whole from `S_IDLE`
is exactly its writes in ascending order, one claim and one flush; two in succession are two such sequences. -/
def Obligations.TextFramesDrawTheirPixels : Prop :=
  (∀ (s : State) (ps : List Rgb) (rest : List Byte), s.state = .idle → s.frameClear → ps.length ≤ 65535 →
    s.rx = textFrame s.cfg ps ++ rest →
    FrameDone s (drain (6 + 3 * ps.length) s) false ps rest) ∧
  ∀ (s : State) (ps : List Rgb) (rest : List Byte), s.state = .idle → s.frameClear → ps.length ≤ 65535 →
    s.rx = textFrame s.cfg ps ++ (textFrame s.cfg ps ++ rest) →
    (drain (2 * (6 + 3 * ps.length)) s).trace =
      s.trace ++ (writeEffects s.cfg false 0 ps ++ commitEffects s) ++ (writeEffects s.cfg false 0 ps ++ commitEffects s)

/-- 43_binary.md and 44_pixel_data.md, with D6, D7 and D8: a binary frame with any length field `L`, followed by its
`L div 3` pixels, is exactly their writes, one claim and one flush; whatever follows, a remainder of the length or a
footer, is left as lead bytes. -/
def Obligations.BinaryFrameDrawsItsPixels : Prop :=
  ∀ (s : State) (len : Half) (ps : List Rgb) (rest : List Byte), s.state = .idle → s.frameClear →
    ps.length = len.toNat / 3 → s.rx = binHeader len ++ (pixelBytes ps ++ rest) →
    FrameDone s (drain (4 + 3 * ps.length) s) true ps rest

/-- 70_reset_and_hazards.md, the hazard of an unfinished frame, and 44_pixel_data.md: in the pixel positions nothing
interrupts a frame. With `count` pixels to come, the channels of the first already held among them, the bytes that follow,
whatever they are, are the rest of these pixels: they are written from `idx` on and the frame is committed. Continuous mode
stays on only if it was on and every one of these bytes is `O` (D11). -/
def Obligations.PixelDataCannotBeInterrupted : Prop :=
  ∀ (s : State) (p : Rgb) (ps : List Rgb) (rest : List Byte), s.inPixel →
    (1 ≤ channelsHeld s.state → p.r = s.r) → (2 ≤ channelsHeld s.state → p.g = s.g) →
    s.count.toNat = ps.length + 1 →
    s.rx = (pixelBytes (p :: ps)).drop (channelsHeld s.state) ++ rest →
    PixelsDone s (drain (3 * (ps.length + 1) - channelsHeld s.state) s) s.bin s.idx
      (s.continuous && ((pixelBytes (p :: ps)).drop (channelsHeld s.state)).all (· == 0x4F)) (p :: ps) rest

/-- 30_encoding.md section 5, with D25: a binary readback frame fed back into a block of the same kind is a data frame of
all the sink's cells, composited, and two bytes of noise, provided its length field does not wrap. The block composites
them once more with its own `BIN_WHITE_IN` (D7), so it draws the very image sent only where that is 0. -/
def Obligations.ReadbackFrameDecodesBack : Prop :=
  ∀ (s : State) (n : Nat) (m : Memory) (rest : List Byte), s.state = .idle → s.frameClear → 3 * n < 65536 →
    s.rx = readbackBinary n m ++ rest →
    FrameDone s (drain (6 + 3 * n) s) true (readbackPixels n m) rest

/-- 40_guard_and_invocation.md section 3, resumability: in a quiet environment that lets every invocation proceed (assumption
log 6), and when no hand-off is decoded, after any number of steps the decoder stands where the bytes consumed so far take
it, however the run was cut into invocations: the registers but for the scheduler's own, the cells and the rest of RX agree
with the plain sequence of byte steps. The trace is that of the byte steps but for notes and for whole frames of the
scheduler, each of the cells as they were at its place. Bytes `0x49` and `0x7B` inside a frame are no hand-offs; a
structured request is left out because its collaborator chooses anew in each run (assumption log 1). -/
def Obligations.RunsDoNotDependOnTheCut : Prop :=
  ∀ (k : Nat) (s t : State), s.schedule = [] → proceed s.inputs = true → s.sampled = s.inputs →
    NoHandoff s → core.run k s = .next t →
    ∃ n, n ≤ k ∧ t.rx = (drain n s).rx ∧ (drain n s).rx = s.rx.drop n ∧
      t.registers.decoder = (drain n s).registers.decoder ∧ t.mem = (drain n s).mem ∧
      withoutOutput t.trace = withoutOutput (drain n s).trace ∧ CutTrace s n (withoutDiag t.trace)

/-- 60_exceptions.md section 1: an invocation in a quiet environment ends, after at most two steps more than there are bytes in
RX, and never loops without consuming (assumption log 6). Progress through a hand-off rests on D12 and D13: the
collaborator takes at least one byte, the model's reading of which is assumption log 12. -/
def Obligations.EveryInvocationReturns : Prop :=
  ∀ s : State, s.schedule = [] → s.phase ≠ .between →
    ∃ (k : Nat) (t : State), k ≤ s.rx.length + 2 ∧ core.run k s = .next t ∧ t.phase = .between ∧ t.rx <:+ s.rx
end

