-- ==== Sys2Proof/Laws/Memory.lean ====
section
/-! SUPPORT. The laws of the sink's memory: read after write, what a write leaves alone, and that every operation keeps
the canonical form and the sink's bounds. -/

namespace Sys2Proof.Machine

@[simp] theorem memory_read_nil (a : Nat) : Memory.read [] a = unlistedByte := rfl

@[simp] theorem memory_wf_nil : Memory.wf [] = true := rfl

theorem memory_wf_cons (k : Nat) (v : Byte) (m : Memory) :
    Memory.wf ((k, v) :: m) = true ↔ v ≠ unlistedByte ∧ (∀ c ∈ m, k < c.1) ∧ Memory.wf m = true := by
  simp [Memory.wf, and_assoc]

/-- A memory whose addresses all lie above `a` lists nothing at `a`. -/
theorem memory_read_below (m : Memory) (a : Nat) (h : ∀ c ∈ m, a < c.1) : Memory.read m a = unlistedByte := by
  induction m with
  | nil => rfl
  | cons c m ih =>
    have hc : a < c.1 := h c (by simp)
    simp only [Memory.read]
    rw [if_neg (by omega), ih (fun d hd => h d (by simp [hd]))]

/-- The addresses after a write are among the old ones and the written one. -/
theorem memory_write_keys (m : Memory) (a : Nat) (v : Byte) :
    ∀ c ∈ Memory.write m a v, c.1 = a ∨ ∃ d ∈ m, d.1 = c.1 := by
  induction m with
  | nil =>
    intro c hc
    simp only [Memory.write] at hc
    split at hc <;> simp_all
  | cons d m ih =>
    obtain ⟨k, w⟩ := d
    intro c hc
    simp only [Memory.write] at hc
    split at hc
    · rcases List.mem_cons.mp hc with rfl | hc
      · exact .inr ⟨(k, w), by simp, rfl⟩
      · rcases ih c hc with h | ⟨d, hd, hdc⟩
        · exact .inl h
        · exact .inr ⟨d, by simp [hd], hdc⟩
    · split at hc <;> split at hc <;> aesop

theorem memory_write_wf (m : Memory) (a : Nat) (v : Byte) (h : Memory.wf m = true) :
    Memory.wf (Memory.write m a v) = true := by
  induction m with
  | nil =>
    simp only [Memory.write]
    split
    · rfl
    · rename_i hv
      simp [memory_wf_cons, hv]
  | cons d m ih =>
    obtain ⟨k, w⟩ := d
    obtain ⟨hw, hk, hm⟩ := (memory_wf_cons k w m).mp h
    simp only [Memory.write]
    split
    · rename_i hka
      refine (memory_wf_cons _ _ _).mpr ⟨hw, ?_, ih hm⟩
      intro c hc
      rcases memory_write_keys m a v c hc with h1 | ⟨d, hd, hdc⟩
      · omega
      · have := hk d hd
        omega
    · split
      · rename_i _ hka
        subst hka
        split
        · exact hm
        · rename_i hv
          exact (memory_wf_cons _ _ _).mpr ⟨hv, hk, hm⟩
      · rename_i h1 h2
        split
        · exact h
        · rename_i hv
          refine (memory_wf_cons _ _ _).mpr ⟨hv, ?_, h⟩
          intro c hc
          rcases List.mem_cons.mp hc with rfl | hc
          · show a < k
            omega
          · have := hk c hc
            omega

theorem memory_read_write_same (m : Memory) (a : Nat) (v : Byte) (h : Memory.wf m = true) :
    Memory.read (Memory.write m a v) a = v := by
  induction m with
  | nil =>
    simp only [Memory.write]
    split
    · rename_i hv
      simp [hv]
    · simp [Memory.read]
  | cons d m ih =>
    obtain ⟨k, w⟩ := d
    obtain ⟨hw, hk, hm⟩ := (memory_wf_cons k w m).mp h
    simp only [Memory.write]
    split
    · rename_i hka
      simp only [Memory.read]
      rw [if_neg (by omega), ih hm]
    · split
      · rename_i _ hka
        subst hka
        split
        · rename_i hv
          rw [memory_read_below m k hk, hv]
        · simp [Memory.read]
      · rename_i h1 h2
        split
        · rename_i hv
          rw [memory_read_below _ a ?_, hv]
          intro c hc
          rcases List.mem_cons.mp hc with rfl | hc
          · show a < k
            omega
          · have := hk c hc
            omega
        · simp [Memory.read]

theorem memory_read_write_other (m : Memory) (a x : Nat) (v : Byte) (hx : x ≠ a) :
    Memory.read (Memory.write m a v) x = Memory.read m x := by
  induction m with
  | nil =>
    simp only [Memory.write]
    split
    · rfl
    · simp only [Memory.read]
      rw [if_neg (by omega)]
  | cons d m ih =>
    obtain ⟨k, w⟩ := d
    simp only [Memory.write]
    split
    · simp only [Memory.read, ih]
    · split
      · rename_i _ hka
        subst hka
        split
        · simp only [Memory.read]
          rw [if_neg (by omega)]
        · simp only [Memory.read]
          rw [if_neg (by omega), if_neg (by omega)]
      · split
        · rfl
        · simp only [Memory.read]
          rw [if_neg (by omega)]

theorem sinkStore_dropped (n : Nat) (m : Memory) (i : Nat) (p : Pixel) (h : n ≤ i) : sinkStore n m i p = m := by
  simp only [sinkStore]
  rw [if_neg (by omega)]

theorem sinkStore_wf (n : Nat) (m : Memory) (i : Nat) (p : Pixel) (h : Memory.wf m = true) :
    Memory.wf (sinkStore n m i p) = true := by
  unfold sinkStore
  split
  · exact memory_write_wf _ _ _ (memory_write_wf _ _ _ (memory_write_wf _ _ _ (memory_write_wf _ _ _ h)))
  · exact h

/-- A stored cell lies inside the sink. -/
theorem sinkStore_bound (n : Nat) (m : Memory) (i : Nat) (p : Pixel) (h : ∀ c ∈ m, c.1 < 4 * n) :
    ∀ c ∈ sinkStore n m i p, c.1 < 4 * n := by
  have write_bound : ∀ (m : Memory) (a : Nat) (v : Byte), (∀ c ∈ m, c.1 < 4 * n) → a < 4 * n →
      ∀ c ∈ Memory.write m a v, c.1 < 4 * n := by
    intro m a v hm ha c hc
    rcases memory_write_keys m a v c hc with h1 | ⟨d, hd, hdc⟩
    · omega
    · rw [← hdc]
      exact hm d hd
  unfold sinkStore
  split
  · rename_i hi
    apply write_bound _ _ _ _ (by unfold chanAddr; omega)
    apply write_bound _ _ _ _ (by unfold chanAddr; omega)
    apply write_bound _ _ _ _ (by unfold chanAddr; omega)
    exact write_bound _ _ _ h (by unfold chanAddr; omega)
  · exact h

/-- A stored cell reads back whole. -/
theorem sinkRead_store_same (n : Nat) (m : Memory) (i : Nat) (p : Pixel) (h : Memory.wf m = true) (hi : i < n) :
    sinkRead (sinkStore n m i p) i = p := by
  have w1 := memory_write_wf m (chanAddr i 0) p.r h
  have w2 := memory_write_wf _ (chanAddr i 1) p.g w1
  have w3 := memory_write_wf _ (chanAddr i 2) p.b w2
  unfold sinkStore sinkRead
  rw [if_pos hi]
  rw [memory_read_write_same _ _ _ w3,
    memory_read_write_other _ _ _ _ (show chanAddr i 2 ≠ chanAddr i 3 by unfold chanAddr; omega),
    memory_read_write_same _ _ _ w2,
    memory_read_write_other _ _ _ _ (show chanAddr i 1 ≠ chanAddr i 3 by unfold chanAddr; omega),
    memory_read_write_other _ _ _ _ (show chanAddr i 1 ≠ chanAddr i 2 by unfold chanAddr; omega),
    memory_read_write_same _ _ _ w1,
    memory_read_write_other _ _ _ _ (show chanAddr i 0 ≠ chanAddr i 3 by unfold chanAddr; omega),
    memory_read_write_other _ _ _ _ (show chanAddr i 0 ≠ chanAddr i 2 by unfold chanAddr; omega),
    memory_read_write_other _ _ _ _ (show chanAddr i 0 ≠ chanAddr i 1 by unfold chanAddr; omega),
    memory_read_write_same _ _ _ h]

/-- A store changes no byte outside the four of its cell. -/
theorem memory_read_store_other (n : Nat) (m : Memory) (i : Nat) (p : Pixel) (a : Nat)
    (ha : a < chanAddr i 0 ∨ chanAddr i 3 < a) : Memory.read (sinkStore n m i p) a = Memory.read m a := by
  unfold chanAddr at ha
  unfold sinkStore
  split
  · rw [memory_read_write_other _ _ _ _ (by unfold chanAddr; omega),
      memory_read_write_other _ _ _ _ (by unfold chanAddr; omega),
      memory_read_write_other _ _ _ _ (by unfold chanAddr; omega),
      memory_read_write_other _ _ _ _ (by unfold chanAddr; omega)]
  · rfl

/-- A store changes no other cell. -/
theorem sinkRead_store_other (n : Nat) (m : Memory) (i j : Nat) (p : Pixel) (h : j ≠ i) :
    sinkRead (sinkStore n m i p) j = sinkRead m j := by
  unfold sinkRead
  rw [memory_read_store_other n m i p _ (by unfold chanAddr; omega),
    memory_read_store_other n m i p _ (by unfold chanAddr; omega),
    memory_read_store_other n m i p _ (by unfold chanAddr; omega),
    memory_read_store_other n m i p _ (by unfold chanAddr; omega)]

/-- What every store keeps, another party's acts keep, of the cells and of the shown image. -/
theorem sinkActs_keeps {n : Nat} {P : Memory → Prop} (hP : ∀ m i p, P m → P (sinkStore n m i p)) (as : List SinkAct) :
    ∀ mem shown, P mem → P shown → P (sinkActs n as mem shown).1 ∧ P (sinkActs n as mem shown).2 := by
  induction as with
  | nil => exact fun _ _ h1 h2 => ⟨h1, h2⟩
  | cons a as ih =>
    intro mem shown h1 h2
    cases a with
    | write i p => exact ih _ _ (hP mem i p h1) h2
    | flush => exact ih _ _ h1 h1

theorem sinkActs_wf (n : Nat) (as : List SinkAct) (mem shown : Memory) (h1 : Memory.wf mem = true)
    (h2 : Memory.wf shown = true) :
    Memory.wf (sinkActs n as mem shown).1 = true ∧ Memory.wf (sinkActs n as mem shown).2 = true :=
  sinkActs_keeps (P := fun m => Memory.wf m = true) (fun m i p => sinkStore_wf n m i p) as mem shown h1 h2

theorem sinkActs_bound (n : Nat) (as : List SinkAct) (mem shown : Memory) (h1 : ∀ c ∈ mem, c.1 < 4 * n)
    (h2 : ∀ c ∈ shown, c.1 < 4 * n) :
    (∀ c ∈ (sinkActs n as mem shown).1, c.1 < 4 * n) ∧ ∀ c ∈ (sinkActs n as mem shown).2, c.1 < 4 * n :=
  sinkActs_keeps (P := fun m => ∀ c ∈ m, c.1 < 4 * n) (fun m i p => sinkStore_bound n m i p) as mem shown h1 h2

/-- The memory of the reset state has the canonical form. -/
theorem reset_memory_wf : Memory.wf State.reset.mem = true := rfl

end Sys2Proof.Machine
end

