-- ==== Sys2Proof/Laws/State.lean ====
section
/-! SUPPORT. What each field holds after each update of the state: one lemma per field per operation, true by definition,
so that no proof unfolds a record update. -/

namespace Sys2Proof.Machine

/-! `popRx` (R51) -/

section

variable (s : State)

@[simp] theorem popRx_cfg : (popRx s).cfg = s.cfg := rfl
@[simp] theorem popRx_state : (popRx s).state = s.state := rfl
@[simp] theorem popRx_count : (popRx s).count = s.count := rfl
@[simp] theorem popRx_chk : (popRx s).chk = s.chk := rfl
@[simp] theorem popRx_idx : (popRx s).idx = s.idx := rfl
@[simp] theorem popRx_r : (popRx s).r = s.r := rfl
@[simp] theorem popRx_g : (popRx s).g = s.g := rfl
@[simp] theorem popRx_bin : (popRx s).bin = s.bin := rfl
@[simp] theorem popRx_baud : (popRx s).baud = s.baud := rfl
@[simp] theorem popRx_continuous : (popRx s).continuous = s.continuous := rfl
@[simp] theorem popRx_lastToken : (popRx s).lastToken = s.lastToken := rfl
@[simp] theorem popRx_forceReconnect : (popRx s).forceReconnect = s.forceReconnect := rfl
@[simp] theorem popRx_phase : (popRx s).phase = s.phase := rfl
@[simp] theorem popRx_sampled : (popRx s).sampled = s.sampled := rfl
@[simp] theorem popRx_start : (popRx s).start = s.start := rfl
@[simp] theorem popRx_rx : (popRx s).rx = s.rx.tail := rfl
@[simp] theorem popRx_tx : (popRx s).tx = s.tx := rfl
@[simp] theorem popRx_line : (popRx s).line = s.line := rfl
@[simp] theorem popRx_linkRate : (popRx s).linkRate = s.linkRate := rfl
@[simp] theorem popRx_mem : (popRx s).mem = s.mem := rfl
@[simp] theorem popRx_shown : (popRx s).shown = s.shown := rfl
@[simp] theorem popRx_token : (popRx s).token = s.token := rfl
@[simp] theorem popRx_claim : (popRx s).claim = s.claim := rfl
@[simp] theorem popRx_restartPending : (popRx s).restartPending = s.restartPending := rfl
@[simp] theorem popRx_inputs : (popRx s).inputs = s.inputs := rfl
@[simp] theorem popRx_now : (popRx s).now = s.now := rfl
@[simp] theorem popRx_schedule : (popRx s).schedule = s.schedule := rfl
@[simp] theorem popRx_draws : (popRx s).draws = s.draws := rfl
@[simp] theorem popRx_trace : (popRx s).trace = s.trace := rfl
@[simp] theorem popRx_errors : (popRx s).errors = s.errors := rfl

end

/-! `takeRx` (R53) -/

section

variable (raw : Nat) (s : State)

@[simp] theorem takeRx_cfg : (takeRx raw s).cfg = s.cfg := rfl
@[simp] theorem takeRx_state : (takeRx raw s).state = s.state := rfl
@[simp] theorem takeRx_count : (takeRx raw s).count = s.count := rfl
@[simp] theorem takeRx_chk : (takeRx raw s).chk = s.chk := rfl
@[simp] theorem takeRx_idx : (takeRx raw s).idx = s.idx := rfl
@[simp] theorem takeRx_r : (takeRx raw s).r = s.r := rfl
@[simp] theorem takeRx_g : (takeRx raw s).g = s.g := rfl
@[simp] theorem takeRx_bin : (takeRx raw s).bin = s.bin := rfl
@[simp] theorem takeRx_baud : (takeRx raw s).baud = s.baud := rfl
@[simp] theorem takeRx_continuous : (takeRx raw s).continuous = s.continuous := rfl
@[simp] theorem takeRx_lastToken : (takeRx raw s).lastToken = s.lastToken := rfl
@[simp] theorem takeRx_forceReconnect : (takeRx raw s).forceReconnect = s.forceReconnect := rfl
@[simp] theorem takeRx_phase : (takeRx raw s).phase = s.phase := rfl
@[simp] theorem takeRx_sampled : (takeRx raw s).sampled = s.sampled := rfl
@[simp] theorem takeRx_start : (takeRx raw s).start = s.start := rfl
@[simp] theorem takeRx_rx : (takeRx raw s).rx = s.rx.drop (takenBytes raw s.rx.length) := rfl
@[simp] theorem takeRx_tx : (takeRx raw s).tx = s.tx := rfl
@[simp] theorem takeRx_line : (takeRx raw s).line = s.line := rfl
@[simp] theorem takeRx_linkRate : (takeRx raw s).linkRate = s.linkRate := rfl
@[simp] theorem takeRx_mem : (takeRx raw s).mem = s.mem := rfl
@[simp] theorem takeRx_shown : (takeRx raw s).shown = s.shown := rfl
@[simp] theorem takeRx_token : (takeRx raw s).token = s.token := rfl
@[simp] theorem takeRx_claim : (takeRx raw s).claim = s.claim := rfl
@[simp] theorem takeRx_restartPending : (takeRx raw s).restartPending = s.restartPending := rfl
@[simp] theorem takeRx_inputs : (takeRx raw s).inputs = s.inputs := rfl
@[simp] theorem takeRx_now : (takeRx raw s).now = s.now := rfl
@[simp] theorem takeRx_schedule : (takeRx raw s).schedule = s.schedule := rfl
@[simp] theorem takeRx_draws : (takeRx raw s).draws = s.draws := rfl
@[simp] theorem takeRx_trace : (takeRx raw s).trace = s.trace := rfl
@[simp] theorem takeRx_errors : (takeRx raw s).errors = s.errors := rfl

end

/-! `txPutAll` (R55) -/

section

variable (bytes : List Byte) (s : State)

@[simp] theorem txPutAll_cfg : (txPutAll bytes s).cfg = s.cfg := rfl
@[simp] theorem txPutAll_state : (txPutAll bytes s).state = s.state := rfl
@[simp] theorem txPutAll_count : (txPutAll bytes s).count = s.count := rfl
@[simp] theorem txPutAll_chk : (txPutAll bytes s).chk = s.chk := rfl
@[simp] theorem txPutAll_idx : (txPutAll bytes s).idx = s.idx := rfl
@[simp] theorem txPutAll_r : (txPutAll bytes s).r = s.r := rfl
@[simp] theorem txPutAll_g : (txPutAll bytes s).g = s.g := rfl
@[simp] theorem txPutAll_bin : (txPutAll bytes s).bin = s.bin := rfl
@[simp] theorem txPutAll_baud : (txPutAll bytes s).baud = s.baud := rfl
@[simp] theorem txPutAll_continuous : (txPutAll bytes s).continuous = s.continuous := rfl
@[simp] theorem txPutAll_lastToken : (txPutAll bytes s).lastToken = s.lastToken := rfl
@[simp] theorem txPutAll_forceReconnect : (txPutAll bytes s).forceReconnect = s.forceReconnect := rfl
@[simp] theorem txPutAll_phase : (txPutAll bytes s).phase = s.phase := rfl
@[simp] theorem txPutAll_sampled : (txPutAll bytes s).sampled = s.sampled := rfl
@[simp] theorem txPutAll_start : (txPutAll bytes s).start = s.start := rfl
@[simp] theorem txPutAll_rx : (txPutAll bytes s).rx = s.rx := rfl
@[simp] theorem txPutAll_tx : (txPutAll bytes s).tx = s.tx ++ bytes := rfl
@[simp] theorem txPutAll_line : (txPutAll bytes s).line = s.line := rfl
@[simp] theorem txPutAll_linkRate : (txPutAll bytes s).linkRate = s.linkRate := rfl
@[simp] theorem txPutAll_mem : (txPutAll bytes s).mem = s.mem := rfl
@[simp] theorem txPutAll_shown : (txPutAll bytes s).shown = s.shown := rfl
@[simp] theorem txPutAll_token : (txPutAll bytes s).token = s.token := rfl
@[simp] theorem txPutAll_claim : (txPutAll bytes s).claim = s.claim := rfl
@[simp] theorem txPutAll_restartPending : (txPutAll bytes s).restartPending = s.restartPending := rfl
@[simp] theorem txPutAll_inputs : (txPutAll bytes s).inputs = s.inputs := rfl
@[simp] theorem txPutAll_now : (txPutAll bytes s).now = s.now := rfl
@[simp] theorem txPutAll_schedule : (txPutAll bytes s).schedule = s.schedule := rfl
@[simp] theorem txPutAll_draws : (txPutAll bytes s).draws = s.draws := rfl
@[simp] theorem txPutAll_trace : (txPutAll bytes s).trace = s.trace ++ bytes.map Effect.tx := rfl
@[simp] theorem txPutAll_errors : (txPutAll bytes s).errors = s.errors := rfl

end

/-! `sendBytes` (R55) -/

section

variable (n : Nat) (s : State)

@[simp] theorem sendBytes_cfg : (sendBytes n s).cfg = s.cfg := rfl
@[simp] theorem sendBytes_state : (sendBytes n s).state = s.state := rfl
@[simp] theorem sendBytes_count : (sendBytes n s).count = s.count := rfl
@[simp] theorem sendBytes_chk : (sendBytes n s).chk = s.chk := rfl
@[simp] theorem sendBytes_idx : (sendBytes n s).idx = s.idx := rfl
@[simp] theorem sendBytes_r : (sendBytes n s).r = s.r := rfl
@[simp] theorem sendBytes_g : (sendBytes n s).g = s.g := rfl
@[simp] theorem sendBytes_bin : (sendBytes n s).bin = s.bin := rfl
@[simp] theorem sendBytes_baud : (sendBytes n s).baud = s.baud := rfl
@[simp] theorem sendBytes_continuous : (sendBytes n s).continuous = s.continuous := rfl
@[simp] theorem sendBytes_lastToken : (sendBytes n s).lastToken = s.lastToken := rfl
@[simp] theorem sendBytes_forceReconnect : (sendBytes n s).forceReconnect = s.forceReconnect := rfl
@[simp] theorem sendBytes_phase : (sendBytes n s).phase = s.phase := rfl
@[simp] theorem sendBytes_sampled : (sendBytes n s).sampled = s.sampled := rfl
@[simp] theorem sendBytes_start : (sendBytes n s).start = s.start := rfl
@[simp] theorem sendBytes_rx : (sendBytes n s).rx = s.rx := rfl
@[simp] theorem sendBytes_tx : (sendBytes n s).tx = s.tx.drop n := rfl
@[simp] theorem sendBytes_line :
    (sendBytes n s).line = s.line ++ (s.tx.take n).map (fun b => { byte := b, rate := s.linkRate }) := rfl
@[simp] theorem sendBytes_linkRate : (sendBytes n s).linkRate = s.linkRate := rfl
@[simp] theorem sendBytes_mem : (sendBytes n s).mem = s.mem := rfl
@[simp] theorem sendBytes_shown : (sendBytes n s).shown = s.shown := rfl
@[simp] theorem sendBytes_token : (sendBytes n s).token = s.token := rfl
@[simp] theorem sendBytes_claim : (sendBytes n s).claim = s.claim := rfl
@[simp] theorem sendBytes_restartPending : (sendBytes n s).restartPending = s.restartPending := rfl
@[simp] theorem sendBytes_inputs : (sendBytes n s).inputs = s.inputs := rfl
@[simp] theorem sendBytes_now : (sendBytes n s).now = s.now := rfl
@[simp] theorem sendBytes_schedule : (sendBytes n s).schedule = s.schedule := rfl
@[simp] theorem sendBytes_draws : (sendBytes n s).draws = s.draws := rfl
@[simp] theorem sendBytes_trace : (sendBytes n s).trace = s.trace := rfl
@[simp] theorem sendBytes_errors : (sendBytes n s).errors = s.errors := rfl

end

/-! `txDrain` (R56) -/

section

variable (s : State)

@[simp] theorem txDrain_cfg : (txDrain s).cfg = s.cfg := rfl
@[simp] theorem txDrain_state : (txDrain s).state = s.state := rfl
@[simp] theorem txDrain_count : (txDrain s).count = s.count := rfl
@[simp] theorem txDrain_chk : (txDrain s).chk = s.chk := rfl
@[simp] theorem txDrain_idx : (txDrain s).idx = s.idx := rfl
@[simp] theorem txDrain_r : (txDrain s).r = s.r := rfl
@[simp] theorem txDrain_g : (txDrain s).g = s.g := rfl
@[simp] theorem txDrain_bin : (txDrain s).bin = s.bin := rfl
@[simp] theorem txDrain_baud : (txDrain s).baud = s.baud := rfl
@[simp] theorem txDrain_continuous : (txDrain s).continuous = s.continuous := rfl
@[simp] theorem txDrain_lastToken : (txDrain s).lastToken = s.lastToken := rfl
@[simp] theorem txDrain_forceReconnect : (txDrain s).forceReconnect = s.forceReconnect := rfl
@[simp] theorem txDrain_phase : (txDrain s).phase = s.phase := rfl
@[simp] theorem txDrain_sampled : (txDrain s).sampled = s.sampled := rfl
@[simp] theorem txDrain_start : (txDrain s).start = s.start := rfl
@[simp] theorem txDrain_rx : (txDrain s).rx = s.rx := rfl
@[simp] theorem txDrain_tx : (txDrain s).tx = s.tx.drop s.tx.length := rfl
@[simp] theorem txDrain_line :
    (txDrain s).line = s.line ++ (s.tx.take s.tx.length).map (fun b => { byte := b, rate := s.linkRate }) := rfl
@[simp] theorem txDrain_linkRate : (txDrain s).linkRate = s.linkRate := rfl
@[simp] theorem txDrain_mem : (txDrain s).mem = s.mem := rfl
@[simp] theorem txDrain_shown : (txDrain s).shown = s.shown := rfl
@[simp] theorem txDrain_token : (txDrain s).token = s.token := rfl
@[simp] theorem txDrain_claim : (txDrain s).claim = s.claim := rfl
@[simp] theorem txDrain_restartPending : (txDrain s).restartPending = s.restartPending := rfl
@[simp] theorem txDrain_inputs : (txDrain s).inputs = s.inputs := rfl
@[simp] theorem txDrain_now : (txDrain s).now = s.now := rfl
@[simp] theorem txDrain_schedule : (txDrain s).schedule = s.schedule := rfl
@[simp] theorem txDrain_draws : (txDrain s).draws = s.draws := rfl
@[simp] theorem txDrain_trace : (txDrain s).trace = s.trace ++ [.drain] := rfl
@[simp] theorem txDrain_errors : (txDrain s).errors = s.errors := rfl

end

/-! `linkReopen` (R57) -/

section

variable (rate : Rate) (s : State)

@[simp] theorem linkReopen_cfg : (linkReopen rate s).cfg = s.cfg := rfl
@[simp] theorem linkReopen_state : (linkReopen rate s).state = s.state := rfl
@[simp] theorem linkReopen_count : (linkReopen rate s).count = s.count := rfl
@[simp] theorem linkReopen_chk : (linkReopen rate s).chk = s.chk := rfl
@[simp] theorem linkReopen_idx : (linkReopen rate s).idx = s.idx := rfl
@[simp] theorem linkReopen_r : (linkReopen rate s).r = s.r := rfl
@[simp] theorem linkReopen_g : (linkReopen rate s).g = s.g := rfl
@[simp] theorem linkReopen_bin : (linkReopen rate s).bin = s.bin := rfl
@[simp] theorem linkReopen_baud : (linkReopen rate s).baud = s.baud := rfl
@[simp] theorem linkReopen_continuous : (linkReopen rate s).continuous = s.continuous := rfl
@[simp] theorem linkReopen_lastToken : (linkReopen rate s).lastToken = s.lastToken := rfl
@[simp] theorem linkReopen_forceReconnect : (linkReopen rate s).forceReconnect = s.forceReconnect := rfl
@[simp] theorem linkReopen_phase : (linkReopen rate s).phase = s.phase := rfl
@[simp] theorem linkReopen_sampled : (linkReopen rate s).sampled = s.sampled := rfl
@[simp] theorem linkReopen_start : (linkReopen rate s).start = s.start := rfl
@[simp] theorem linkReopen_rx : (linkReopen rate s).rx = s.rx := rfl
@[simp] theorem linkReopen_tx : (linkReopen rate s).tx = s.tx := rfl
@[simp] theorem linkReopen_line : (linkReopen rate s).line = s.line := rfl
@[simp] theorem linkReopen_linkRate : (linkReopen rate s).linkRate = rate := rfl
@[simp] theorem linkReopen_mem : (linkReopen rate s).mem = s.mem := rfl
@[simp] theorem linkReopen_shown : (linkReopen rate s).shown = s.shown := rfl
@[simp] theorem linkReopen_token : (linkReopen rate s).token = s.token := rfl
@[simp] theorem linkReopen_claim : (linkReopen rate s).claim = s.claim := rfl
@[simp] theorem linkReopen_restartPending : (linkReopen rate s).restartPending = s.restartPending := rfl
@[simp] theorem linkReopen_inputs : (linkReopen rate s).inputs = s.inputs := rfl
@[simp] theorem linkReopen_now : (linkReopen rate s).now = s.now := rfl
@[simp] theorem linkReopen_schedule : (linkReopen rate s).schedule = s.schedule := rfl
@[simp] theorem linkReopen_draws : (linkReopen rate s).draws = s.draws := rfl
@[simp] theorem linkReopen_trace : (linkReopen rate s).trace = s.trace ++ [.reopen rate] := rfl
@[simp] theorem linkReopen_errors : (linkReopen rate s).errors = s.errors := rfl

end

/-! `readClock` (R282) -/

section

variable (elapsed : Millis) (s : State)

@[simp] theorem readClock_cfg : (readClock elapsed s).cfg = s.cfg := rfl
@[simp] theorem readClock_state : (readClock elapsed s).state = s.state := rfl
@[simp] theorem readClock_count : (readClock elapsed s).count = s.count := rfl
@[simp] theorem readClock_chk : (readClock elapsed s).chk = s.chk := rfl
@[simp] theorem readClock_idx : (readClock elapsed s).idx = s.idx := rfl
@[simp] theorem readClock_r : (readClock elapsed s).r = s.r := rfl
@[simp] theorem readClock_g : (readClock elapsed s).g = s.g := rfl
@[simp] theorem readClock_bin : (readClock elapsed s).bin = s.bin := rfl
@[simp] theorem readClock_baud : (readClock elapsed s).baud = s.baud := rfl
@[simp] theorem readClock_continuous : (readClock elapsed s).continuous = s.continuous := rfl
@[simp] theorem readClock_lastToken : (readClock elapsed s).lastToken = s.lastToken := rfl
@[simp] theorem readClock_forceReconnect : (readClock elapsed s).forceReconnect = s.forceReconnect := rfl
@[simp] theorem readClock_phase : (readClock elapsed s).phase = s.phase := rfl
@[simp] theorem readClock_sampled : (readClock elapsed s).sampled = s.sampled := rfl
@[simp] theorem readClock_start : (readClock elapsed s).start = s.start := rfl
@[simp] theorem readClock_rx : (readClock elapsed s).rx = s.rx := rfl
@[simp] theorem readClock_tx : (readClock elapsed s).tx = s.tx := rfl
@[simp] theorem readClock_line : (readClock elapsed s).line = s.line := rfl
@[simp] theorem readClock_linkRate : (readClock elapsed s).linkRate = s.linkRate := rfl
@[simp] theorem readClock_mem : (readClock elapsed s).mem = s.mem := rfl
@[simp] theorem readClock_shown : (readClock elapsed s).shown = s.shown := rfl
@[simp] theorem readClock_token : (readClock elapsed s).token = s.token := rfl
@[simp] theorem readClock_claim : (readClock elapsed s).claim = s.claim := rfl
@[simp] theorem readClock_restartPending : (readClock elapsed s).restartPending = s.restartPending := rfl
@[simp] theorem readClock_inputs : (readClock elapsed s).inputs = s.inputs := rfl
@[simp] theorem readClock_now : (readClock elapsed s).now = s.now + elapsed := rfl
@[simp] theorem readClock_schedule : (readClock elapsed s).schedule = s.schedule := rfl
@[simp] theorem readClock_draws : (readClock elapsed s).draws = s.draws + 1 := rfl
@[simp] theorem readClock_trace : (readClock elapsed s).trace = s.trace := rfl
@[simp] theorem readClock_errors : (readClock elapsed s).errors = s.errors := rfl

end

/-! `claimAcquire` (R66) -/

section

variable (s : State)

@[simp] theorem claimAcquire_cfg : (claimAcquire s).cfg = s.cfg := rfl
@[simp] theorem claimAcquire_state : (claimAcquire s).state = s.state := rfl
@[simp] theorem claimAcquire_count : (claimAcquire s).count = s.count := rfl
@[simp] theorem claimAcquire_chk : (claimAcquire s).chk = s.chk := rfl
@[simp] theorem claimAcquire_idx : (claimAcquire s).idx = s.idx := rfl
@[simp] theorem claimAcquire_r : (claimAcquire s).r = s.r := rfl
@[simp] theorem claimAcquire_g : (claimAcquire s).g = s.g := rfl
@[simp] theorem claimAcquire_bin : (claimAcquire s).bin = s.bin := rfl
@[simp] theorem claimAcquire_baud : (claimAcquire s).baud = s.baud := rfl
@[simp] theorem claimAcquire_continuous : (claimAcquire s).continuous = s.continuous := rfl
@[simp] theorem claimAcquire_lastToken : (claimAcquire s).lastToken = s.lastToken := rfl
@[simp] theorem claimAcquire_forceReconnect : (claimAcquire s).forceReconnect = s.forceReconnect := rfl
@[simp] theorem claimAcquire_phase : (claimAcquire s).phase = s.phase := rfl
@[simp] theorem claimAcquire_sampled : (claimAcquire s).sampled = s.sampled := rfl
@[simp] theorem claimAcquire_start : (claimAcquire s).start = s.start := rfl
@[simp] theorem claimAcquire_rx : (claimAcquire s).rx = s.rx := rfl
@[simp] theorem claimAcquire_tx : (claimAcquire s).tx = s.tx := rfl
@[simp] theorem claimAcquire_line : (claimAcquire s).line = s.line := rfl
@[simp] theorem claimAcquire_linkRate : (claimAcquire s).linkRate = s.linkRate := rfl
@[simp] theorem claimAcquire_mem : (claimAcquire s).mem = s.mem := rfl
@[simp] theorem claimAcquire_shown : (claimAcquire s).shown = s.shown := rfl
@[simp] theorem claimAcquire_token : (claimAcquire s).token = s.token := rfl
@[simp] theorem claimAcquire_claim :
    (claimAcquire s).claim = some { tag := s.cfg.claimTag, expiry := s.now + Config.elapsed s.draws + s.sampled.claimTimeout } := rfl
@[simp] theorem claimAcquire_restartPending : (claimAcquire s).restartPending = s.restartPending := rfl
@[simp] theorem claimAcquire_inputs : (claimAcquire s).inputs = s.inputs := rfl
@[simp] theorem claimAcquire_now : (claimAcquire s).now = s.now + Config.elapsed s.draws := rfl
@[simp] theorem claimAcquire_schedule : (claimAcquire s).schedule = s.schedule := rfl
@[simp] theorem claimAcquire_draws : (claimAcquire s).draws = s.draws + 1 := rfl
@[simp] theorem claimAcquire_trace :
    (claimAcquire s).trace = s.trace ++ [.claim s.cfg.claimTag s.sampled.claimTimeout] := rfl
@[simp] theorem claimAcquire_errors : (claimAcquire s).errors = s.errors := rfl

end

/-! `sinkWrite` (R59) -/

section

variable (i : Half) (p : Pixel) (s : State)

@[simp] theorem sinkWrite_cfg : (sinkWrite i p s).cfg = s.cfg := rfl
@[simp] theorem sinkWrite_state : (sinkWrite i p s).state = s.state := rfl
@[simp] theorem sinkWrite_count : (sinkWrite i p s).count = s.count := rfl
@[simp] theorem sinkWrite_chk : (sinkWrite i p s).chk = s.chk := rfl
@[simp] theorem sinkWrite_idx : (sinkWrite i p s).idx = s.idx := rfl
@[simp] theorem sinkWrite_r : (sinkWrite i p s).r = s.r := rfl
@[simp] theorem sinkWrite_g : (sinkWrite i p s).g = s.g := rfl
@[simp] theorem sinkWrite_bin : (sinkWrite i p s).bin = s.bin := rfl
@[simp] theorem sinkWrite_baud : (sinkWrite i p s).baud = s.baud := rfl
@[simp] theorem sinkWrite_continuous : (sinkWrite i p s).continuous = s.continuous := rfl
@[simp] theorem sinkWrite_lastToken : (sinkWrite i p s).lastToken = s.lastToken := rfl
@[simp] theorem sinkWrite_forceReconnect : (sinkWrite i p s).forceReconnect = s.forceReconnect := rfl
@[simp] theorem sinkWrite_phase : (sinkWrite i p s).phase = s.phase := rfl
@[simp] theorem sinkWrite_sampled : (sinkWrite i p s).sampled = s.sampled := rfl
@[simp] theorem sinkWrite_start : (sinkWrite i p s).start = s.start := rfl
@[simp] theorem sinkWrite_rx : (sinkWrite i p s).rx = s.rx := rfl
@[simp] theorem sinkWrite_tx : (sinkWrite i p s).tx = s.tx := rfl
@[simp] theorem sinkWrite_line : (sinkWrite i p s).line = s.line := rfl
@[simp] theorem sinkWrite_linkRate : (sinkWrite i p s).linkRate = s.linkRate := rfl
@[simp] theorem sinkWrite_mem : (sinkWrite i p s).mem = sinkStore s.cfg.pixelCount s.mem i.toNat p := rfl
@[simp] theorem sinkWrite_shown : (sinkWrite i p s).shown = s.shown := rfl
@[simp] theorem sinkWrite_token : (sinkWrite i p s).token = s.cfg.tokenType.value (Config.sinkToken s.draws) := rfl
@[simp] theorem sinkWrite_claim : (sinkWrite i p s).claim = s.claim := rfl
@[simp] theorem sinkWrite_restartPending : (sinkWrite i p s).restartPending = s.restartPending := rfl
@[simp] theorem sinkWrite_inputs : (sinkWrite i p s).inputs = s.inputs := rfl
@[simp] theorem sinkWrite_now : (sinkWrite i p s).now = s.now := rfl
@[simp] theorem sinkWrite_schedule : (sinkWrite i p s).schedule = s.schedule := rfl
@[simp] theorem sinkWrite_draws : (sinkWrite i p s).draws = s.draws + 1 := rfl
@[simp] theorem sinkWrite_trace : (sinkWrite i p s).trace = s.trace ++ [.write i p] := rfl
@[simp] theorem sinkWrite_errors : (sinkWrite i p s).errors = s.errors := rfl

end

/-! `sinkFlush` (R62) -/

section

variable (s : State)

@[simp] theorem sinkFlush_cfg : (sinkFlush s).cfg = s.cfg := rfl
@[simp] theorem sinkFlush_state : (sinkFlush s).state = s.state := rfl
@[simp] theorem sinkFlush_count : (sinkFlush s).count = s.count := rfl
@[simp] theorem sinkFlush_chk : (sinkFlush s).chk = s.chk := rfl
@[simp] theorem sinkFlush_idx : (sinkFlush s).idx = s.idx := rfl
@[simp] theorem sinkFlush_r : (sinkFlush s).r = s.r := rfl
@[simp] theorem sinkFlush_g : (sinkFlush s).g = s.g := rfl
@[simp] theorem sinkFlush_bin : (sinkFlush s).bin = s.bin := rfl
@[simp] theorem sinkFlush_baud : (sinkFlush s).baud = s.baud := rfl
@[simp] theorem sinkFlush_continuous : (sinkFlush s).continuous = s.continuous := rfl
@[simp] theorem sinkFlush_lastToken : (sinkFlush s).lastToken = s.lastToken := rfl
@[simp] theorem sinkFlush_forceReconnect : (sinkFlush s).forceReconnect = s.forceReconnect := rfl
@[simp] theorem sinkFlush_phase : (sinkFlush s).phase = s.phase := rfl
@[simp] theorem sinkFlush_sampled : (sinkFlush s).sampled = s.sampled := rfl
@[simp] theorem sinkFlush_start : (sinkFlush s).start = s.start := rfl
@[simp] theorem sinkFlush_rx : (sinkFlush s).rx = s.rx := rfl
@[simp] theorem sinkFlush_tx : (sinkFlush s).tx = s.tx := rfl
@[simp] theorem sinkFlush_line : (sinkFlush s).line = s.line := rfl
@[simp] theorem sinkFlush_linkRate : (sinkFlush s).linkRate = s.linkRate := rfl
@[simp] theorem sinkFlush_mem : (sinkFlush s).mem = s.mem := rfl
@[simp] theorem sinkFlush_shown : (sinkFlush s).shown = s.mem := rfl
@[simp] theorem sinkFlush_token : (sinkFlush s).token = s.cfg.tokenType.value (Config.sinkToken s.draws) := rfl
@[simp] theorem sinkFlush_claim : (sinkFlush s).claim = s.claim := rfl
@[simp] theorem sinkFlush_restartPending : (sinkFlush s).restartPending = s.restartPending := rfl
@[simp] theorem sinkFlush_inputs : (sinkFlush s).inputs = s.inputs := rfl
@[simp] theorem sinkFlush_now : (sinkFlush s).now = s.now := rfl
@[simp] theorem sinkFlush_schedule : (sinkFlush s).schedule = s.schedule := rfl
@[simp] theorem sinkFlush_draws : (sinkFlush s).draws = s.draws + 1 := rfl
@[simp] theorem sinkFlush_trace : (sinkFlush s).trace = s.trace ++ [.flush] := rfl
@[simp] theorem sinkFlush_errors : (sinkFlush s).errors = s.errors := rfl

end

/-! `applyShared` (R70) -/

section

variable (c : SharedChange) (s : State)

@[simp] theorem applyShared_cfg : (applyShared c s).cfg = s.cfg := rfl
@[simp] theorem applyShared_state : (applyShared c s).state = s.state := rfl
@[simp] theorem applyShared_count : (applyShared c s).count = s.count := rfl
@[simp] theorem applyShared_chk : (applyShared c s).chk = s.chk := rfl
@[simp] theorem applyShared_idx : (applyShared c s).idx = s.idx := rfl
@[simp] theorem applyShared_r : (applyShared c s).r = s.r := rfl
@[simp] theorem applyShared_g : (applyShared c s).g = s.g := rfl
@[simp] theorem applyShared_bin : (applyShared c s).bin = s.bin := rfl
@[simp] theorem applyShared_baud : (applyShared c s).baud = s.baud := rfl
@[simp] theorem applyShared_continuous : (applyShared c s).continuous = s.continuous := rfl
@[simp] theorem applyShared_lastToken : (applyShared c s).lastToken = s.lastToken := rfl
@[simp] theorem applyShared_forceReconnect : (applyShared c s).forceReconnect = s.forceReconnect := rfl
@[simp] theorem applyShared_phase : (applyShared c s).phase = s.phase := rfl
@[simp] theorem applyShared_sampled : (applyShared c s).sampled = s.sampled := rfl
@[simp] theorem applyShared_start : (applyShared c s).start = s.start := rfl
@[simp] theorem applyShared_rx : (applyShared c s).rx = s.rx := rfl
@[simp] theorem applyShared_tx : (applyShared c s).tx = s.tx := rfl
@[simp] theorem applyShared_line : (applyShared c s).line = s.line := rfl
@[simp] theorem applyShared_linkRate : (applyShared c s).linkRate = s.linkRate := rfl
@[simp] theorem applyShared_mem : (applyShared c s).mem = (sinkActs s.cfg.pixelCount c.acts s.mem s.shown).1 := rfl
@[simp] theorem applyShared_shown : (applyShared c s).shown = (sinkActs s.cfg.pixelCount c.acts s.mem s.shown).2 := rfl
@[simp] theorem applyShared_token : (applyShared c s).token = s.cfg.tokenType.value c.token := rfl
@[simp] theorem applyShared_claim : (applyShared c s).claim = c.claim := rfl
@[simp] theorem applyShared_restartPending : (applyShared c s).restartPending = s.restartPending := rfl
@[simp] theorem applyShared_inputs : (applyShared c s).inputs = s.inputs := rfl
@[simp] theorem applyShared_now : (applyShared c s).now = s.now := rfl
@[simp] theorem applyShared_schedule : (applyShared c s).schedule = s.schedule := rfl
@[simp] theorem applyShared_draws : (applyShared c s).draws = s.draws := rfl
@[simp] theorem applyShared_trace : (applyShared c s).trace = s.trace := rfl
@[simp] theorem applyShared_errors : (applyShared c s).errors = s.errors := rfl

end

/-! `diag` (R290) -/

section

variable (note : DiagNote) (s : State)

@[simp] theorem diag_cfg : (diag note s).cfg = s.cfg := rfl
@[simp] theorem diag_state : (diag note s).state = s.state := rfl
@[simp] theorem diag_count : (diag note s).count = s.count := rfl
@[simp] theorem diag_chk : (diag note s).chk = s.chk := rfl
@[simp] theorem diag_idx : (diag note s).idx = s.idx := rfl
@[simp] theorem diag_r : (diag note s).r = s.r := rfl
@[simp] theorem diag_g : (diag note s).g = s.g := rfl
@[simp] theorem diag_bin : (diag note s).bin = s.bin := rfl
@[simp] theorem diag_baud : (diag note s).baud = s.baud := rfl
@[simp] theorem diag_continuous : (diag note s).continuous = s.continuous := rfl
@[simp] theorem diag_lastToken : (diag note s).lastToken = s.lastToken := rfl
@[simp] theorem diag_forceReconnect : (diag note s).forceReconnect = s.forceReconnect := rfl
@[simp] theorem diag_phase : (diag note s).phase = s.phase := rfl
@[simp] theorem diag_sampled : (diag note s).sampled = s.sampled := rfl
@[simp] theorem diag_start : (diag note s).start = s.start := rfl
@[simp] theorem diag_rx : (diag note s).rx = s.rx := rfl
@[simp] theorem diag_tx : (diag note s).tx = s.tx := rfl
@[simp] theorem diag_line : (diag note s).line = s.line := rfl
@[simp] theorem diag_linkRate : (diag note s).linkRate = s.linkRate := rfl
@[simp] theorem diag_mem : (diag note s).mem = s.mem := rfl
@[simp] theorem diag_shown : (diag note s).shown = s.shown := rfl
@[simp] theorem diag_token : (diag note s).token = s.token := rfl
@[simp] theorem diag_claim : (diag note s).claim = s.claim := rfl
@[simp] theorem diag_restartPending : (diag note s).restartPending = s.restartPending := rfl
@[simp] theorem diag_inputs : (diag note s).inputs = s.inputs := rfl
@[simp] theorem diag_now : (diag note s).now = s.now := rfl
@[simp] theorem diag_schedule : (diag note s).schedule = s.schedule := rfl
@[simp] theorem diag_draws : (diag note s).draws = s.draws := rfl
@[simp] theorem diag_trace : (diag note s).trace = s.trace ++ [.diag note] := rfl
@[simp] theorem diag_errors : (diag note s).errors = s.errors := rfl

end

/-! `gotoIdle` (R26) -/

section

variable (s : State)

@[simp] theorem gotoIdle_cfg : (gotoIdle s).cfg = s.cfg := rfl
@[simp] theorem gotoIdle_state : (gotoIdle s).state = .idle := rfl
@[simp] theorem gotoIdle_count : (gotoIdle s).count = 0 := rfl
@[simp] theorem gotoIdle_chk : (gotoIdle s).chk = 0 := rfl
@[simp] theorem gotoIdle_idx : (gotoIdle s).idx = 0 := rfl
@[simp] theorem gotoIdle_r : (gotoIdle s).r = 0 := rfl
@[simp] theorem gotoIdle_g : (gotoIdle s).g = 0 := rfl
@[simp] theorem gotoIdle_bin : (gotoIdle s).bin = false := rfl
@[simp] theorem gotoIdle_baud : (gotoIdle s).baud = s.baud := rfl
@[simp] theorem gotoIdle_continuous : (gotoIdle s).continuous = s.continuous := rfl
@[simp] theorem gotoIdle_lastToken : (gotoIdle s).lastToken = s.lastToken := rfl
@[simp] theorem gotoIdle_forceReconnect : (gotoIdle s).forceReconnect = s.forceReconnect := rfl
@[simp] theorem gotoIdle_phase : (gotoIdle s).phase = s.phase := rfl
@[simp] theorem gotoIdle_sampled : (gotoIdle s).sampled = s.sampled := rfl
@[simp] theorem gotoIdle_start : (gotoIdle s).start = s.start := rfl
@[simp] theorem gotoIdle_rx : (gotoIdle s).rx = s.rx := rfl
@[simp] theorem gotoIdle_tx : (gotoIdle s).tx = s.tx := rfl
@[simp] theorem gotoIdle_line : (gotoIdle s).line = s.line := rfl
@[simp] theorem gotoIdle_linkRate : (gotoIdle s).linkRate = s.linkRate := rfl
@[simp] theorem gotoIdle_mem : (gotoIdle s).mem = s.mem := rfl
@[simp] theorem gotoIdle_shown : (gotoIdle s).shown = s.shown := rfl
@[simp] theorem gotoIdle_token : (gotoIdle s).token = s.token := rfl
@[simp] theorem gotoIdle_claim : (gotoIdle s).claim = s.claim := rfl
@[simp] theorem gotoIdle_restartPending : (gotoIdle s).restartPending = s.restartPending := rfl
@[simp] theorem gotoIdle_inputs : (gotoIdle s).inputs = s.inputs := rfl
@[simp] theorem gotoIdle_now : (gotoIdle s).now = s.now := rfl
@[simp] theorem gotoIdle_schedule : (gotoIdle s).schedule = s.schedule := rfl
@[simp] theorem gotoIdle_draws : (gotoIdle s).draws = s.draws := rfl
@[simp] theorem gotoIdle_trace : (gotoIdle s).trace = s.trace := rfl
@[simp] theorem gotoIdle_errors : (gotoIdle s).errors = s.errors := rfl

end

/-! `raiseError` (R277) -/

section

variable (k : ErrorKind) (s : State)

@[simp] theorem raiseError_cfg : (raiseError k s).cfg = s.cfg := rfl
@[simp] theorem raiseError_state : (raiseError k s).state = s.state := rfl
@[simp] theorem raiseError_count : (raiseError k s).count = s.count := rfl
@[simp] theorem raiseError_chk : (raiseError k s).chk = s.chk := rfl
@[simp] theorem raiseError_idx : (raiseError k s).idx = s.idx := rfl
@[simp] theorem raiseError_r : (raiseError k s).r = s.r := rfl
@[simp] theorem raiseError_g : (raiseError k s).g = s.g := rfl
@[simp] theorem raiseError_bin : (raiseError k s).bin = s.bin := rfl
@[simp] theorem raiseError_baud : (raiseError k s).baud = s.baud := rfl
@[simp] theorem raiseError_continuous : (raiseError k s).continuous = s.continuous := rfl
@[simp] theorem raiseError_lastToken : (raiseError k s).lastToken = s.lastToken := rfl
@[simp] theorem raiseError_forceReconnect : (raiseError k s).forceReconnect = s.forceReconnect := rfl
@[simp] theorem raiseError_phase : (raiseError k s).phase = s.phase := rfl
@[simp] theorem raiseError_sampled : (raiseError k s).sampled = s.sampled := rfl
@[simp] theorem raiseError_start : (raiseError k s).start = s.start := rfl
@[simp] theorem raiseError_rx : (raiseError k s).rx = s.rx := rfl
@[simp] theorem raiseError_tx : (raiseError k s).tx = s.tx := rfl
@[simp] theorem raiseError_line : (raiseError k s).line = s.line := rfl
@[simp] theorem raiseError_linkRate : (raiseError k s).linkRate = s.linkRate := rfl
@[simp] theorem raiseError_mem : (raiseError k s).mem = s.mem := rfl
@[simp] theorem raiseError_shown : (raiseError k s).shown = s.shown := rfl
@[simp] theorem raiseError_token : (raiseError k s).token = s.token := rfl
@[simp] theorem raiseError_claim : (raiseError k s).claim = s.claim := rfl
@[simp] theorem raiseError_restartPending : (raiseError k s).restartPending = s.restartPending := rfl
@[simp] theorem raiseError_inputs : (raiseError k s).inputs = s.inputs := rfl
@[simp] theorem raiseError_now : (raiseError k s).now = s.now := rfl
@[simp] theorem raiseError_schedule : (raiseError k s).schedule = s.schedule := rfl
@[simp] theorem raiseError_draws : (raiseError k s).draws = s.draws := rfl
@[simp] theorem raiseError_trace : (raiseError k s).trace = s.trace := rfl
@[simp] theorem raiseError_errors : (raiseError k s).errors = s.errors ++ [k] := rfl

end

/-! `errorEntry` (R280) -/

section

variable (k : ErrorKind) (s : State)

@[simp] theorem errorEntry_cfg : (errorEntry k s).cfg = s.cfg := rfl
@[simp] theorem errorEntry_state : (errorEntry k s).state = .idle := rfl
@[simp] theorem errorEntry_count : (errorEntry k s).count = 0 := rfl
@[simp] theorem errorEntry_chk : (errorEntry k s).chk = 0 := rfl
@[simp] theorem errorEntry_idx : (errorEntry k s).idx = 0 := rfl
@[simp] theorem errorEntry_r : (errorEntry k s).r = 0 := rfl
@[simp] theorem errorEntry_g : (errorEntry k s).g = 0 := rfl
@[simp] theorem errorEntry_bin : (errorEntry k s).bin = false := rfl
@[simp] theorem errorEntry_baud : (errorEntry k s).baud = s.baud := rfl
@[simp] theorem errorEntry_continuous : (errorEntry k s).continuous = s.continuous := rfl
@[simp] theorem errorEntry_lastToken : (errorEntry k s).lastToken = s.lastToken := rfl
@[simp] theorem errorEntry_forceReconnect : (errorEntry k s).forceReconnect = s.forceReconnect := rfl
@[simp] theorem errorEntry_phase : (errorEntry k s).phase = s.phase := rfl
@[simp] theorem errorEntry_sampled : (errorEntry k s).sampled = s.sampled := rfl
@[simp] theorem errorEntry_start : (errorEntry k s).start = s.start := rfl
@[simp] theorem errorEntry_rx : (errorEntry k s).rx = s.rx := rfl
@[simp] theorem errorEntry_tx : (errorEntry k s).tx = s.tx := rfl
@[simp] theorem errorEntry_line : (errorEntry k s).line = s.line := rfl
@[simp] theorem errorEntry_linkRate : (errorEntry k s).linkRate = s.linkRate := rfl
@[simp] theorem errorEntry_mem : (errorEntry k s).mem = s.mem := rfl
@[simp] theorem errorEntry_shown : (errorEntry k s).shown = s.shown := rfl
@[simp] theorem errorEntry_token : (errorEntry k s).token = s.token := rfl
@[simp] theorem errorEntry_claim : (errorEntry k s).claim = s.claim := rfl
@[simp] theorem errorEntry_restartPending : (errorEntry k s).restartPending = s.restartPending := rfl
@[simp] theorem errorEntry_inputs : (errorEntry k s).inputs = s.inputs := rfl
@[simp] theorem errorEntry_now : (errorEntry k s).now = s.now := rfl
@[simp] theorem errorEntry_schedule : (errorEntry k s).schedule = s.schedule := rfl
@[simp] theorem errorEntry_draws : (errorEntry k s).draws = s.draws := rfl
@[simp] theorem errorEntry_trace : (errorEntry k s).trace = s.trace := rfl
@[simp] theorem errorEntry_errors : (errorEntry k s).errors = s.errors ++ [k] := rfl

end

/-! `commit` (R194) -/

section

variable (s : State)

@[simp] theorem commit_cfg : (commit s).cfg = s.cfg := rfl
@[simp] theorem commit_state : (commit s).state = .idle := rfl
@[simp] theorem commit_count : (commit s).count = 0 := rfl
@[simp] theorem commit_chk : (commit s).chk = 0 := rfl
@[simp] theorem commit_idx : (commit s).idx = 0 := rfl
@[simp] theorem commit_r : (commit s).r = 0 := rfl
@[simp] theorem commit_g : (commit s).g = 0 := rfl
@[simp] theorem commit_bin : (commit s).bin = false := rfl
@[simp] theorem commit_baud : (commit s).baud = s.baud := rfl
@[simp] theorem commit_continuous : (commit s).continuous = s.continuous := rfl
@[simp] theorem commit_lastToken : (commit s).lastToken = s.lastToken := rfl
@[simp] theorem commit_forceReconnect : (commit s).forceReconnect = s.forceReconnect := rfl
@[simp] theorem commit_phase : (commit s).phase = s.phase := rfl
@[simp] theorem commit_sampled : (commit s).sampled = s.sampled := rfl
@[simp] theorem commit_start : (commit s).start = s.start := rfl
@[simp] theorem commit_rx : (commit s).rx = s.rx := rfl
@[simp] theorem commit_tx : (commit s).tx = s.tx := rfl
@[simp] theorem commit_line : (commit s).line = s.line := rfl
@[simp] theorem commit_linkRate : (commit s).linkRate = s.linkRate := rfl
@[simp] theorem commit_mem : (commit s).mem = s.mem := rfl
@[simp] theorem commit_shown : (commit s).shown = s.mem := rfl
@[simp] theorem commit_token : (commit s).token = s.cfg.tokenType.value (Config.sinkToken (s.draws + 1)) := rfl
@[simp] theorem commit_claim :
    (commit s).claim = some { tag := s.cfg.claimTag, expiry := s.now + Config.elapsed s.draws + s.sampled.claimTimeout } := rfl
@[simp] theorem commit_restartPending : (commit s).restartPending = s.restartPending := rfl
@[simp] theorem commit_inputs : (commit s).inputs = s.inputs := rfl
@[simp] theorem commit_now : (commit s).now = s.now + Config.elapsed s.draws := rfl
@[simp] theorem commit_schedule : (commit s).schedule = s.schedule := rfl
@[simp] theorem commit_draws : (commit s).draws = s.draws + 1 + 1 := rfl
@[simp] theorem commit_trace :
    (commit s).trace = s.trace ++ [.claim s.cfg.claimTag s.sampled.claimTimeout] ++ [.flush] := rfl
@[simp] theorem commit_errors : (commit s).errors = s.errors := rfl

end

/-! `resetBlock` (R301) -/

section

variable (s : State)

@[simp] theorem resetBlock_cfg : (resetBlock s).cfg = s.cfg := rfl
@[simp] theorem resetBlock_state : (resetBlock s).state = .idle := rfl
@[simp] theorem resetBlock_count : (resetBlock s).count = 0 := rfl
@[simp] theorem resetBlock_chk : (resetBlock s).chk = 0 := rfl
@[simp] theorem resetBlock_idx : (resetBlock s).idx = 0 := rfl
@[simp] theorem resetBlock_r : (resetBlock s).r = 0 := rfl
@[simp] theorem resetBlock_g : (resetBlock s).g = 0 := rfl
@[simp] theorem resetBlock_bin : (resetBlock s).bin = false := rfl
@[simp] theorem resetBlock_baud : (resetBlock s).baud = s.cfg.defaultBaud := rfl
@[simp] theorem resetBlock_continuous : (resetBlock s).continuous = false := rfl
@[simp] theorem resetBlock_lastToken : (resetBlock s).lastToken = s.cfg.tokenType.value s.cfg.tokenReset := rfl
@[simp] theorem resetBlock_forceReconnect : (resetBlock s).forceReconnect = false := rfl
@[simp] theorem resetBlock_phase : (resetBlock s).phase = .between := rfl
@[simp] theorem resetBlock_sampled : (resetBlock s).sampled = s.sampled := rfl
@[simp] theorem resetBlock_start : (resetBlock s).start = s.start := rfl
@[simp] theorem resetBlock_rx : (resetBlock s).rx = s.rx := rfl
@[simp] theorem resetBlock_tx : (resetBlock s).tx = s.tx := rfl
@[simp] theorem resetBlock_line : (resetBlock s).line = s.line := rfl
@[simp] theorem resetBlock_linkRate : (resetBlock s).linkRate = s.cfg.defaultBaud := rfl
@[simp] theorem resetBlock_mem : (resetBlock s).mem = s.mem := rfl
@[simp] theorem resetBlock_shown : (resetBlock s).shown = s.shown := rfl
@[simp] theorem resetBlock_token : (resetBlock s).token = s.token := rfl
@[simp] theorem resetBlock_claim : (resetBlock s).claim = s.claim := rfl
@[simp] theorem resetBlock_restartPending : (resetBlock s).restartPending = false := rfl
@[simp] theorem resetBlock_inputs : (resetBlock s).inputs = s.inputs := rfl
@[simp] theorem resetBlock_now : (resetBlock s).now = s.now := rfl
@[simp] theorem resetBlock_schedule : (resetBlock s).schedule = s.schedule := rfl
@[simp] theorem resetBlock_draws : (resetBlock s).draws = s.draws := rfl
@[simp] theorem resetBlock_trace : (resetBlock s).trace = s.trace := rfl
@[simp] theorem resetBlock_errors : (resetBlock s).errors = s.errors := rfl

end

/-! `setContinuous` (R224, R225) -/

section

variable (v : Bool) (s : State)

@[simp] theorem setContinuous_cfg : (setContinuous v s).cfg = s.cfg := rfl
@[simp] theorem setContinuous_state : (setContinuous v s).state = s.state := rfl
@[simp] theorem setContinuous_count : (setContinuous v s).count = s.count := rfl
@[simp] theorem setContinuous_chk : (setContinuous v s).chk = s.chk := rfl
@[simp] theorem setContinuous_idx : (setContinuous v s).idx = s.idx := rfl
@[simp] theorem setContinuous_r : (setContinuous v s).r = s.r := rfl
@[simp] theorem setContinuous_g : (setContinuous v s).g = s.g := rfl
@[simp] theorem setContinuous_bin : (setContinuous v s).bin = s.bin := rfl
@[simp] theorem setContinuous_baud : (setContinuous v s).baud = s.baud := rfl
@[simp] theorem setContinuous_continuous : (setContinuous v s).continuous = v := rfl
@[simp] theorem setContinuous_lastToken : (setContinuous v s).lastToken = s.lastToken := rfl
@[simp] theorem setContinuous_forceReconnect : (setContinuous v s).forceReconnect = s.forceReconnect := rfl
@[simp] theorem setContinuous_phase : (setContinuous v s).phase = s.phase := rfl
@[simp] theorem setContinuous_sampled : (setContinuous v s).sampled = s.sampled := rfl
@[simp] theorem setContinuous_start : (setContinuous v s).start = s.start := rfl
@[simp] theorem setContinuous_rx : (setContinuous v s).rx = s.rx := rfl
@[simp] theorem setContinuous_tx : (setContinuous v s).tx = s.tx := rfl
@[simp] theorem setContinuous_line : (setContinuous v s).line = s.line := rfl
@[simp] theorem setContinuous_linkRate : (setContinuous v s).linkRate = s.linkRate := rfl
@[simp] theorem setContinuous_mem : (setContinuous v s).mem = s.mem := rfl
@[simp] theorem setContinuous_shown : (setContinuous v s).shown = s.shown := rfl
@[simp] theorem setContinuous_token : (setContinuous v s).token = s.token := rfl
@[simp] theorem setContinuous_claim : (setContinuous v s).claim = s.claim := rfl
@[simp] theorem setContinuous_restartPending : (setContinuous v s).restartPending = s.restartPending := rfl
@[simp] theorem setContinuous_inputs : (setContinuous v s).inputs = s.inputs := rfl
@[simp] theorem setContinuous_now : (setContinuous v s).now = s.now := rfl
@[simp] theorem setContinuous_schedule : (setContinuous v s).schedule = s.schedule := rfl
@[simp] theorem setContinuous_draws : (setContinuous v s).draws = s.draws := rfl
@[simp] theorem setContinuous_trace : (setContinuous v s).trace = s.trace := rfl
@[simp] theorem setContinuous_errors : (setContinuous v s).errors = s.errors := rfl

end

/-! `clearContinuous` (R227) -/

section

variable (b : Byte) (s : State)

@[simp] theorem clearContinuous_cfg : (clearContinuous b s).cfg = s.cfg := rfl
@[simp] theorem clearContinuous_state : (clearContinuous b s).state = s.state := rfl
@[simp] theorem clearContinuous_count : (clearContinuous b s).count = s.count := rfl
@[simp] theorem clearContinuous_chk : (clearContinuous b s).chk = s.chk := rfl
@[simp] theorem clearContinuous_idx : (clearContinuous b s).idx = s.idx := rfl
@[simp] theorem clearContinuous_r : (clearContinuous b s).r = s.r := rfl
@[simp] theorem clearContinuous_g : (clearContinuous b s).g = s.g := rfl
@[simp] theorem clearContinuous_bin : (clearContinuous b s).bin = s.bin := rfl
@[simp] theorem clearContinuous_baud : (clearContinuous b s).baud = s.baud := rfl
@[simp] theorem clearContinuous_continuous : (clearContinuous b s).continuous = (s.continuous && b == contOnByte) := rfl
@[simp] theorem clearContinuous_lastToken : (clearContinuous b s).lastToken = s.lastToken := rfl
@[simp] theorem clearContinuous_forceReconnect : (clearContinuous b s).forceReconnect = s.forceReconnect := rfl
@[simp] theorem clearContinuous_phase : (clearContinuous b s).phase = s.phase := rfl
@[simp] theorem clearContinuous_sampled : (clearContinuous b s).sampled = s.sampled := rfl
@[simp] theorem clearContinuous_start : (clearContinuous b s).start = s.start := rfl
@[simp] theorem clearContinuous_rx : (clearContinuous b s).rx = s.rx := rfl
@[simp] theorem clearContinuous_tx : (clearContinuous b s).tx = s.tx := rfl
@[simp] theorem clearContinuous_line : (clearContinuous b s).line = s.line := rfl
@[simp] theorem clearContinuous_linkRate : (clearContinuous b s).linkRate = s.linkRate := rfl
@[simp] theorem clearContinuous_mem : (clearContinuous b s).mem = s.mem := rfl
@[simp] theorem clearContinuous_shown : (clearContinuous b s).shown = s.shown := rfl
@[simp] theorem clearContinuous_token : (clearContinuous b s).token = s.token := rfl
@[simp] theorem clearContinuous_claim : (clearContinuous b s).claim = s.claim := rfl
@[simp] theorem clearContinuous_restartPending : (clearContinuous b s).restartPending = s.restartPending := rfl
@[simp] theorem clearContinuous_inputs : (clearContinuous b s).inputs = s.inputs := rfl
@[simp] theorem clearContinuous_now : (clearContinuous b s).now = s.now := rfl
@[simp] theorem clearContinuous_schedule : (clearContinuous b s).schedule = s.schedule := rfl
@[simp] theorem clearContinuous_draws : (clearContinuous b s).draws = s.draws := rfl
@[simp] theorem clearContinuous_trace : (clearContinuous b s).trace = s.trace := rfl
@[simp] theorem clearContinuous_errors : (clearContinuous b s).errors = s.errors := rfl

end

/-! `setReconnect` (R212) -/

section

variable (s : State)

@[simp] theorem setReconnect_cfg : (setReconnect s).cfg = s.cfg := rfl
@[simp] theorem setReconnect_state : (setReconnect s).state = s.state := rfl
@[simp] theorem setReconnect_count : (setReconnect s).count = s.count := rfl
@[simp] theorem setReconnect_chk : (setReconnect s).chk = s.chk := rfl
@[simp] theorem setReconnect_idx : (setReconnect s).idx = s.idx := rfl
@[simp] theorem setReconnect_r : (setReconnect s).r = s.r := rfl
@[simp] theorem setReconnect_g : (setReconnect s).g = s.g := rfl
@[simp] theorem setReconnect_bin : (setReconnect s).bin = s.bin := rfl
@[simp] theorem setReconnect_baud : (setReconnect s).baud = s.baud := rfl
@[simp] theorem setReconnect_continuous : (setReconnect s).continuous = s.continuous := rfl
@[simp] theorem setReconnect_lastToken : (setReconnect s).lastToken = s.lastToken := rfl
@[simp] theorem setReconnect_forceReconnect : (setReconnect s).forceReconnect = true := rfl
@[simp] theorem setReconnect_phase : (setReconnect s).phase = s.phase := rfl
@[simp] theorem setReconnect_sampled : (setReconnect s).sampled = s.sampled := rfl
@[simp] theorem setReconnect_start : (setReconnect s).start = s.start := rfl
@[simp] theorem setReconnect_rx : (setReconnect s).rx = s.rx := rfl
@[simp] theorem setReconnect_tx : (setReconnect s).tx = s.tx := rfl
@[simp] theorem setReconnect_line : (setReconnect s).line = s.line := rfl
@[simp] theorem setReconnect_linkRate : (setReconnect s).linkRate = s.linkRate := rfl
@[simp] theorem setReconnect_mem : (setReconnect s).mem = s.mem := rfl
@[simp] theorem setReconnect_shown : (setReconnect s).shown = s.shown := rfl
@[simp] theorem setReconnect_token : (setReconnect s).token = s.token := rfl
@[simp] theorem setReconnect_claim : (setReconnect s).claim = s.claim := rfl
@[simp] theorem setReconnect_restartPending : (setReconnect s).restartPending = s.restartPending := rfl
@[simp] theorem setReconnect_inputs : (setReconnect s).inputs = s.inputs := rfl
@[simp] theorem setReconnect_now : (setReconnect s).now = s.now := rfl
@[simp] theorem setReconnect_schedule : (setReconnect s).schedule = s.schedule := rfl
@[simp] theorem setReconnect_draws : (setReconnect s).draws = s.draws := rfl
@[simp] theorem setReconnect_trace : (setReconnect s).trace = s.trace ++ [.reconnect] := rfl
@[simp] theorem setReconnect_errors : (setReconnect s).errors = s.errors := rfl

end

/-! `finishByte` (R113) -/

section

variable (b : Byte) (s : State)

@[simp] theorem finishByte_cfg : (finishByte b s).cfg = s.cfg := rfl
@[simp] theorem finishByte_state : (finishByte b s).state = s.state := rfl
@[simp] theorem finishByte_count : (finishByte b s).count = s.count := rfl
@[simp] theorem finishByte_chk : (finishByte b s).chk = s.chk := rfl
@[simp] theorem finishByte_idx : (finishByte b s).idx = s.idx := rfl
@[simp] theorem finishByte_r : (finishByte b s).r = s.r := rfl
@[simp] theorem finishByte_g : (finishByte b s).g = s.g := rfl
@[simp] theorem finishByte_bin : (finishByte b s).bin = s.bin := rfl
@[simp] theorem finishByte_baud : (finishByte b s).baud = s.baud := rfl
@[simp] theorem finishByte_continuous : (finishByte b s).continuous = (s.continuous && b == contOnByte) := rfl
@[simp] theorem finishByte_lastToken : (finishByte b s).lastToken = s.lastToken := rfl
@[simp] theorem finishByte_forceReconnect : (finishByte b s).forceReconnect = s.forceReconnect := rfl
@[simp] theorem finishByte_phase : (finishByte b s).phase = s.phase := rfl
@[simp] theorem finishByte_sampled : (finishByte b s).sampled = s.sampled := rfl
@[simp] theorem finishByte_start : (finishByte b s).start = s.start := rfl
@[simp] theorem finishByte_rx : (finishByte b s).rx = s.rx.tail := rfl
@[simp] theorem finishByte_tx : (finishByte b s).tx = s.tx := rfl
@[simp] theorem finishByte_line : (finishByte b s).line = s.line := rfl
@[simp] theorem finishByte_linkRate : (finishByte b s).linkRate = s.linkRate := rfl
@[simp] theorem finishByte_mem : (finishByte b s).mem = s.mem := rfl
@[simp] theorem finishByte_shown : (finishByte b s).shown = s.shown := rfl
@[simp] theorem finishByte_token : (finishByte b s).token = s.token := rfl
@[simp] theorem finishByte_claim : (finishByte b s).claim = s.claim := rfl
@[simp] theorem finishByte_restartPending : (finishByte b s).restartPending = s.restartPending := rfl
@[simp] theorem finishByte_inputs : (finishByte b s).inputs = s.inputs := rfl
@[simp] theorem finishByte_now : (finishByte b s).now = s.now := rfl
@[simp] theorem finishByte_schedule : (finishByte b s).schedule = s.schedule := rfl
@[simp] theorem finishByte_draws : (finishByte b s).draws = s.draws := rfl
@[simp] theorem finishByte_trace : (finishByte b s).trace = s.trace := rfl
@[simp] theorem finishByte_errors : (finishByte b s).errors = s.errors := rfl

end

/-! `writePixel` (R192) -/

section

variable (b : Byte) (s : State)

@[simp] theorem writePixel_cfg : (writePixel b s).cfg = s.cfg := rfl
@[simp] theorem writePixel_state : (writePixel b s).state = s.state := rfl
@[simp] theorem writePixel_count : (writePixel b s).count = s.count - 1 := rfl
@[simp] theorem writePixel_chk : (writePixel b s).chk = s.chk := rfl
@[simp] theorem writePixel_idx : (writePixel b s).idx = s.idx + 1 := rfl
@[simp] theorem writePixel_r : (writePixel b s).r = s.r := rfl
@[simp] theorem writePixel_g : (writePixel b s).g = s.g := rfl
@[simp] theorem writePixel_bin : (writePixel b s).bin = s.bin := rfl
@[simp] theorem writePixel_baud : (writePixel b s).baud = s.baud := rfl
@[simp] theorem writePixel_continuous : (writePixel b s).continuous = s.continuous := rfl
@[simp] theorem writePixel_lastToken : (writePixel b s).lastToken = s.lastToken := rfl
@[simp] theorem writePixel_forceReconnect : (writePixel b s).forceReconnect = s.forceReconnect := rfl
@[simp] theorem writePixel_phase : (writePixel b s).phase = s.phase := rfl
@[simp] theorem writePixel_sampled : (writePixel b s).sampled = s.sampled := rfl
@[simp] theorem writePixel_start : (writePixel b s).start = s.start := rfl
@[simp] theorem writePixel_rx : (writePixel b s).rx = s.rx := rfl
@[simp] theorem writePixel_tx : (writePixel b s).tx = s.tx := rfl
@[simp] theorem writePixel_line : (writePixel b s).line = s.line := rfl
@[simp] theorem writePixel_linkRate : (writePixel b s).linkRate = s.linkRate := rfl
@[simp] theorem writePixel_mem :
    (writePixel b s).mem = sinkStore s.cfg.pixelCount s.mem s.idx.toNat (pixelToWrite s.bin s.cfg.binWhiteIn s.r s.g b) := rfl
@[simp] theorem writePixel_shown : (writePixel b s).shown = s.shown := rfl
@[simp] theorem writePixel_token : (writePixel b s).token = s.cfg.tokenType.value (Config.sinkToken s.draws) := rfl
@[simp] theorem writePixel_claim : (writePixel b s).claim = s.claim := rfl
@[simp] theorem writePixel_restartPending : (writePixel b s).restartPending = s.restartPending := rfl
@[simp] theorem writePixel_inputs : (writePixel b s).inputs = s.inputs := rfl
@[simp] theorem writePixel_now : (writePixel b s).now = s.now := rfl
@[simp] theorem writePixel_schedule : (writePixel b s).schedule = s.schedule := rfl
@[simp] theorem writePixel_draws : (writePixel b s).draws = s.draws + 1 := rfl
@[simp] theorem writePixel_trace :
    (writePixel b s).trace = s.trace ++ [.write s.idx (pixelToWrite s.bin s.cfg.binWhiteIn s.r s.g b)] := rfl
@[simp] theorem writePixel_errors : (writePixel b s).errors = s.errors := rfl

end

/-! `beginBinaryData` (R174) -/

section

variable (b : Byte) (s : State)

@[simp] theorem beginBinaryData_cfg : (beginBinaryData b s).cfg = s.cfg := rfl
@[simp] theorem beginBinaryData_state : (beginBinaryData b s).state = s.state := rfl
@[simp] theorem beginBinaryData_count : (beginBinaryData b s).count = pixelsOfLength (lengthWithLow s.count b) := rfl
@[simp] theorem beginBinaryData_chk : (beginBinaryData b s).chk = s.chk := rfl
@[simp] theorem beginBinaryData_idx : (beginBinaryData b s).idx = 0 := rfl
@[simp] theorem beginBinaryData_r : (beginBinaryData b s).r = s.r := rfl
@[simp] theorem beginBinaryData_g : (beginBinaryData b s).g = s.g := rfl
@[simp] theorem beginBinaryData_bin : (beginBinaryData b s).bin = true := rfl
@[simp] theorem beginBinaryData_baud : (beginBinaryData b s).baud = s.baud := rfl
@[simp] theorem beginBinaryData_continuous : (beginBinaryData b s).continuous = s.continuous := rfl
@[simp] theorem beginBinaryData_lastToken : (beginBinaryData b s).lastToken = s.lastToken := rfl
@[simp] theorem beginBinaryData_forceReconnect : (beginBinaryData b s).forceReconnect = s.forceReconnect := rfl
@[simp] theorem beginBinaryData_phase : (beginBinaryData b s).phase = s.phase := rfl
@[simp] theorem beginBinaryData_sampled : (beginBinaryData b s).sampled = s.sampled := rfl
@[simp] theorem beginBinaryData_start : (beginBinaryData b s).start = s.start := rfl
@[simp] theorem beginBinaryData_rx : (beginBinaryData b s).rx = s.rx := rfl
@[simp] theorem beginBinaryData_tx : (beginBinaryData b s).tx = s.tx := rfl
@[simp] theorem beginBinaryData_line : (beginBinaryData b s).line = s.line := rfl
@[simp] theorem beginBinaryData_linkRate : (beginBinaryData b s).linkRate = s.linkRate := rfl
@[simp] theorem beginBinaryData_mem : (beginBinaryData b s).mem = s.mem := rfl
@[simp] theorem beginBinaryData_shown : (beginBinaryData b s).shown = s.shown := rfl
@[simp] theorem beginBinaryData_token : (beginBinaryData b s).token = s.token := rfl
@[simp] theorem beginBinaryData_claim : (beginBinaryData b s).claim = s.claim := rfl
@[simp] theorem beginBinaryData_restartPending : (beginBinaryData b s).restartPending = s.restartPending := rfl
@[simp] theorem beginBinaryData_inputs : (beginBinaryData b s).inputs = s.inputs := rfl
@[simp] theorem beginBinaryData_now : (beginBinaryData b s).now = s.now := rfl
@[simp] theorem beginBinaryData_schedule : (beginBinaryData b s).schedule = s.schedule := rfl
@[simp] theorem beginBinaryData_draws : (beginBinaryData b s).draws = s.draws := rfl
@[simp] theorem beginBinaryData_trace : (beginBinaryData b s).trace = s.trace := rfl
@[simp] theorem beginBinaryData_errors : (beginBinaryData b s).errors = s.errors := rfl

end

end Sys2Proof.Machine
end

