-- ==== Sys2Proof/Laws/Operations.lean ====
section
/-! SUPPORT. One lemma for each shared operation that says everything it does, for proofs to cite instead of unfolding
it; and the laws of the operand computations. -/

namespace Sys2Proof.Machine

/-- The end of a byte step: continuous-clear and pop, nothing else (R113). -/
theorem finishByte_eq (b : Byte) (s : State) :
    finishByte b s = { s with continuous := s.continuous && b == contOnByte, rx := s.rx.tail } := rfl

/-- The end of a byte step for a byte other than `O` (R227). -/
theorem finishByte_of_ne (b : Byte) (s : State) (h : b ≠ contOnByte) :
    finishByte b s = { s with continuous := false, rx := s.rx.tail } := by
  simp [finishByte_eq, h]

/-- Error entry: the error is labelled, the block is idle with FrameContext zero, and nothing else happens (R280). -/
theorem errorEntry_eq (k : ErrorKind) (s : State) :
    errorEntry k s =
      { s with
        state := .idle, count := 0, chk := 0, idx := 0, r := 0, g := 0, bin := false, errors := s.errors ++ [k] } := rfl

/-- Commit: the claim, the flush, and the idle registers; cells, streams and LinkConfig are as before (R194). -/
theorem commit_eq (s : State) :
    commit s =
      { s with
        state := .idle, count := 0, chk := 0, idx := 0, r := 0, g := 0, bin := false
        now := s.now + Config.elapsed s.draws
        claim := some { tag := s.cfg.claimTag, expiry := s.now + Config.elapsed s.draws + s.sampled.claimTimeout }
        shown := s.mem
        token := s.cfg.tokenType.value (Config.sinkToken (s.draws + 1))
        draws := s.draws + 2
        trace := s.trace ++ [.claim s.cfg.claimTag s.sampled.claimTimeout] ++ [.flush] } := rfl

/-- The drain empties TX at the present speed (R56, R71). -/
theorem txDrain_eq (s : State) :
    txDrain s =
      { s with
        tx := []
        line := s.line ++ s.tx.map (fun b => { byte := b, rate := s.linkRate })
        trace := s.trace ++ [.drain] } := by
  simp [txDrain, sendBytes]

/-- A baud request: nothing, or the new rate with everything pending sent at the old one (R213). -/
theorem baudRequest_cases (target : Rate) (s : State) :
    ((target = s.baud ∨ target.toNat < s.cfg.baudMin.val) ∧ baudRequest target s = s) ∨
      (target ≠ s.baud ∧ s.cfg.baudMin.val ≤ target.toNat ∧
        baudRequest target s =
          { s with
            baud := target
            tx := []
            line := s.line ++ s.tx.map (fun b => { byte := b, rate := s.linkRate })
            linkRate := target
            trace := s.trace ++ [.drain] ++ [.reopen target] }) := by
  unfold baudRequest
  split
  · exact .inl ⟨‹_›, rfl⟩
  · rename_i h
    exact .inr ⟨fun e => h (.inl e), by omega, by simp [txDrain_eq, linkReopen]⟩

/-- A boot request changes the pending restart, the trace and the error label, and no register (R211). -/
theorem bootRequest_cases (d : BootDraw) (s : State) :
    (bootToggle d = .switchScheduled ∧
      bootRequest d s =
        { s with trace := s.trace ++ [.boot], draws := s.draws + 1, restartPending := true }) ∨
    (bootToggle d ≠ .switchScheduled ∧
      bootRequest d s =
        { s with
          trace := s.trace ++ [.boot] ++ [.diag .bootReport], draws := s.draws + 1
          errors := s.errors ++ [.privilegedOperationFailure] }) := by
  unfold bootRequest
  cases h : bootToggle d
  · exact .inl ⟨rfl, rfl⟩
  · exact .inr ⟨by simp, rfl⟩
  · exact .inr ⟨by simp, rfl⟩

/-- The scheduler step sends one binary frame and records the token, or does nothing (R255). -/
theorem schedulerStep_cases (s : State) :
    (s.continuous = true ∧ s.token ≠ s.lastToken ∧
      schedulerStep s =
        { s with
          tx := s.tx ++ readbackBinary s.cfg.pixelCount s.mem
          trace := s.trace ++ (readbackBinary s.cfg.pixelCount s.mem).map Effect.tx
          lastToken := s.token }) ∨
    ((s.continuous = false ∨ s.token = s.lastToken) ∧ schedulerStep s = s) := by
  unfold schedulerStep
  split
  · rename_i h
    simp only [Bool.and_eq_true, bne_iff_ne, ne_eq] at h
    exact .inl ⟨h.1, h.2, rfl⟩
  · rename_i h
    refine .inr ⟨?_, rfl⟩
    simp only [Bool.and_eq_true, bne_iff_ne, ne_eq, not_and, not_not] at h
    cases hc : s.continuous
    · exact .inl rfl
    · exact .inr (h hc)

/-- The reply of a structured request appends bytes to TX and may label an error, and does nothing else (R133). -/
theorem requestReply_cases (d : RequestDraw) (s : State) :
    ∃ bytes kinds, requestReply d s =
      { s with
        tx := s.tx ++ bytes, trace := s.trace ++ bytes.map Effect.tx, errors := s.errors ++ kinds } := by
  unfold requestReply
  cases d.outcome
  · exact ⟨s.cfg.errNobufReply, [.resourceExhausted], rfl⟩
  · exact ⟨[], [.deserialization], by simp [raiseError]⟩
  · exact ⟨[], [], by simp⟩
  · dsimp only
    split
    · exact ⟨d.reply, [], by simp [txPutAll]⟩
    · exact ⟨[], [], by simp⟩

/-- A structured-request hand-off: the collaborator takes bytes, changes the shared state and sends a reply; the block's
registers are as before (R133, U10, U12). -/
theorem requestHandoff_cases (d : RequestDraw) (s : State) :
    ∃ bytes kinds, requestHandoff d s =
      { s with
        rx := s.rx.drop (takenBytes d.taken s.rx.length)
        mem := (sinkActs s.cfg.pixelCount d.shared.acts s.mem s.shown).1
        shown := (sinkActs s.cfg.pixelCount d.shared.acts s.mem s.shown).2
        token := s.cfg.tokenType.value d.shared.token, claim := d.shared.claim
        tx := s.tx ++ bytes, trace := s.trace ++ [.request] ++ bytes.map Effect.tx, errors := s.errors ++ kinds
        draws := s.draws + 1 } := by
  unfold requestHandoff
  obtain ⟨bytes, kinds, h⟩ := requestReply_cases d
    { applyShared d.shared (takeRx d.taken s) with
      trace := (applyShared d.shared (takeRx d.taken s)).trace ++ [.request]
      draws := (applyShared d.shared (takeRx d.taken s)).draws + 1 }
  exact ⟨bytes, kinds, h⟩

/-- A pairing hand-off: the collaborator takes bytes, sends bytes and changes the shared state; the invocation is over
and the block's registers are as before (R132, U11, U12). -/
theorem pairingHandoff_eq (d : PairingDraw) (s : State) :
    pairingHandoff d s =
      { s with
        rx := s.rx.drop (takenBytes d.taken s.rx.length)
        mem := (sinkActs s.cfg.pixelCount d.shared.acts s.mem s.shown).1
        shown := (sinkActs s.cfg.pixelCount d.shared.acts s.mem s.shown).2
        token := s.cfg.tokenType.value d.shared.token, claim := d.shared.claim
        tx := s.tx ++ d.sends, trace := s.trace ++ [.pair], draws := s.draws + 1, phase := .between } := rfl

/-- A hand-off collaborator takes at least one byte, and no more than there are (R53). -/
theorem takenBytes_pos (raw avail : Nat) : 1 ≤ takenBytes raw avail := by
  unfold takenBytes
  omega

theorem takenBytes_le (raw avail : Nat) (h : 1 ≤ avail) : takenBytes raw avail ≤ avail := by
  have := Nat.mod_lt raw (show 0 < avail by omega)
  unfold takenBytes
  omega

/-- Every number of bytes the collaborator may take is the image of a choice: the model leaves none out (R53, U11). -/
theorem takenBytes_onto (k avail : Nat) (h1 : 1 ≤ k) (h2 : k ≤ avail) : ∃ raw, takenBytes raw avail = k := by
  refine ⟨k - 1, ?_⟩
  unfold takenBytes
  rw [Nat.mod_eq_of_lt (by omega)]
  omega

/-- A choice of a token is a value of the token type (R6, D34). -/
@[simp] theorem tokenType_has_value (ty : TokenType) (raw : Nat) : ty.has (ty.value raw) = true := by
  cases ty with
  | finite last =>
    have : raw % (last + 1) < last + 1 := Nat.mod_lt raw (Nat.succ_pos last)
    exact decide_eq_true (Nat.le_of_lt_succ this)
  | unbounded => rfl

/-- Every value of the token type is the image of a choice: the model leaves none out (U20). -/
theorem tokenType_value_of_has (ty : TokenType) (t : Token) (h : ty.has t = true) : ty.value t = t := by
  cases ty with
  | finite last =>
    exact Nat.mod_eq_of_lt (Nat.lt_succ_of_le (of_decide_eq_true h))
  | unbounded => rfl

theorem sat8_toNat (a b : Byte) : (sat8 a b).toNat = min 255 (a.toNat + b.toNat) := by
  unfold sat8
  simp only [BitVec.toNat_ofNat]
  omega

@[simp] theorem sat8_zero (a : Byte) : sat8 a 0 = a := by
  apply BitVec.eq_of_toNat_eq
  rw [sat8_toNat]
  have := a.isLt
  simp
  omega

end Sys2Proof.Machine
end

