-- ==== Sys2Proof/Laws/Exec.lean ====
section
/-! SUPPORT. The equation of every meaning, that `exec` always answers a next state, and what no meaning changes. -/

namespace Sys2Proof.Machine

section

variable (b : Byte) (s : State)

@[simp] theorem afterExec_thStart : afterExec .thStart s = finishByte 0x41 { s with state := .thM2 } := rfl
@[simp] theorem afterExec_binStart : afterExec .binStart s = finishByte 0xC9 { s with state := .binType } := rfl
@[simp] theorem afterExec_pairHandoff : afterExec .pairHandoff s = pairingHandoff (Config.pairing s.draws) s := rfl
@[simp] theorem afterExec_reqHandoff :
    afterExec .reqHandoff s =
      clearContinuous 0x7B (requestHandoff (Config.request s.draws) s) := rfl
@[simp] theorem afterExec_cmdVersion : afterExec .cmdVersion s = finishByte 0x76 (txPutAll s.cfg.versionReply s) := rfl
@[simp] theorem afterExec_cmdBoot :
    afterExec .cmdBoot s =
      finishByte 0x5E (if s.cfg.bootCap then bootRequest (Config.boot s.draws) s else s) := rfl
@[simp] theorem afterExec_cmdReconnect : afterExec .cmdReconnect s = finishByte 0x58 (setReconnect s) := rfl
@[simp] theorem afterExec_cmdBaud0 : afterExec .cmdBaud0 s = finishByte 0xB0 (baudRequest (baudRate 0) s) := rfl
@[simp] theorem afterExec_cmdBaud1 : afterExec .cmdBaud1 s = finishByte 0xB1 (baudRequest (baudRate 1) s) := rfl
@[simp] theorem afterExec_cmdBaud2 : afterExec .cmdBaud2 s = finishByte 0xB2 (baudRequest (baudRate 2) s) := rfl
@[simp] theorem afterExec_cmdBaud3 : afterExec .cmdBaud3 s = finishByte 0xB3 (baudRequest (baudRate 3) s) := rfl
@[simp] theorem afterExec_cmdBaud4 : afterExec .cmdBaud4 s = finishByte 0xB4 (baudRequest (baudRate 4) s) := rfl
@[simp] theorem afterExec_cmdBaud5 : afterExec .cmdBaud5 s = finishByte 0xB5 (baudRequest (baudRate 5) s) := rfl
@[simp] theorem afterExec_cmdBaud6 : afterExec .cmdBaud6 s = finishByte 0xB6 (baudRequest (baudRate 6) s) := rfl
@[simp] theorem afterExec_cmdBaud7 : afterExec .cmdBaud7 s = finishByte 0xB7 (baudRequest (baudRate 7) s) := rfl
@[simp] theorem afterExec_cmdReadText :
    afterExec .cmdReadText s =
      finishByte 0x6C (txPutAll (readbackText s.cfg.pixelCount s.mem s.cfg.newline) s) := rfl
@[simp] theorem afterExec_cmdReadBin :
    afterExec .cmdReadBin s =
      finishByte 0x4C (txPutAll (readbackBinary s.cfg.pixelCount s.mem) s) := rfl
@[simp] theorem afterExec_cmdContOff : afterExec .cmdContOff s = finishByte 0x6F (setContinuous false s) := rfl
@[simp] theorem afterExec_cmdContOn : afterExec .cmdContOn s = finishByte 0x4F (setContinuous true s) := rfl
@[simp] theorem afterExec_noise : afterExec (.noise b) s = finishByte b s := rfl
@[simp] theorem afterExec_thM2 :
    afterExec (.thM2 b) s =
      finishByte b (if b = s.cfg.thM2 then { s with state := .thM3 } else errorEntry .framing s) := rfl
@[simp] theorem afterExec_thM3 :
    afterExec (.thM3 b) s =
      finishByte b (if b = s.cfg.thM3 then { s with state := .thCntHi } else errorEntry .framing s) := rfl
@[simp] theorem afterExec_thCntHi :
    afterExec (.thCntHi b) s =
      finishByte b { s with count := highHalf b, chk := b, state := .thCntLo } := rfl
@[simp] theorem afterExec_thCntLo :
    afterExec (.thCntLo b) s =
      finishByte b { s with count := countWithLow s.count b, chk := checksumWithLow s.chk b, state := .thChk
        } := rfl
@[simp] theorem afterExec_thChk :
    afterExec (.thChk b) s =
      finishByte b
        (if b = s.chk then
          if s.count = 0 then commit { s with idx := 0 } else { s with idx := 0, state := .pxR }
        else errorEntry .checksum s) := rfl
@[simp] theorem afterExec_binData : afterExec .binData s = finishByte 0xDA { s with state := .binLenHi } := rfl
@[simp] theorem afterExec_binPing : afterExec .binPing s = finishByte 0xAA (gotoIdle (txPutAll [binAck] s)) := rfl
@[simp] theorem afterExec_binUnsupported :
    afterExec (.binUnsupported b) s =
      finishByte b (errorEntry .unsupportedSubcommand s) := rfl
@[simp] theorem afterExec_binLenHi :
    afterExec (.binLenHi b) s =
      finishByte b { s with count := highHalf b, state := .binLenLo } := rfl
@[simp] theorem afterExec_binLenLo :
    afterExec (.binLenLo b) s =
      finishByte b (if pixelsOfLength (lengthWithLow s.count b) = 0 then commit (beginBinaryData b s) else {
        beginBinaryData b s with state := .pxR }) := rfl
@[simp] theorem afterExec_pxR : afterExec (.pxR b) s = finishByte b { s with r := b, state := .pxG } := rfl
@[simp] theorem afterExec_pxG : afterExec (.pxG b) s = finishByte b { s with g := b, state := .pxB } := rfl
@[simp] theorem afterExec_pxB :
    afterExec (.pxB b) s =
      finishByte b (if s.count - 1 = 0 then commit (writePixel b s) else { writePixel b s with state := .pxR
        }) := rfl

end

/-- Every meaning answers a next state. -/
theorem exec_eq_next (i : Instr) (s : State) : exec i s = .next (afterExec i s) := by
  cases i <;> rfl

/-- What no meaning changes: the parameters, the inputs of the invocation and its start (R32, R115), the host's inputs and
the outside world's coming moves. -/
theorem afterExec_frame (i : Instr) (s : State) :
    (afterExec i s).cfg = s.cfg ∧ (afterExec i s).sampled = s.sampled ∧ (afterExec i s).start = s.start ∧
      (afterExec i s).inputs = s.inputs ∧ (afterExec i s).schedule = s.schedule := by
  cases i
  case reqHandoff =>
    obtain ⟨bytes, kinds, h⟩ := requestHandoff_cases (Config.request s.draws) s
    simp [h]
  case cmdBoot =>
    rcases bootRequest_cases (Config.boot s.draws) s with ⟨-, h⟩ | ⟨-, h⟩ <;> simp only [afterExec_cmdBoot, h] <;>
      split <;> simp
  case cmdBaud0 => rcases baudRequest_cases (baudRate 0) s with ⟨-, h⟩ | ⟨-, -, h⟩ <;> simp [h]
  case cmdBaud1 => rcases baudRequest_cases (baudRate 1) s with ⟨-, h⟩ | ⟨-, -, h⟩ <;> simp [h]
  case cmdBaud2 => rcases baudRequest_cases (baudRate 2) s with ⟨-, h⟩ | ⟨-, -, h⟩ <;> simp [h]
  case cmdBaud3 => rcases baudRequest_cases (baudRate 3) s with ⟨-, h⟩ | ⟨-, -, h⟩ <;> simp [h]
  case cmdBaud4 => rcases baudRequest_cases (baudRate 4) s with ⟨-, h⟩ | ⟨-, -, h⟩ <;> simp [h]
  case cmdBaud5 => rcases baudRequest_cases (baudRate 5) s with ⟨-, h⟩ | ⟨-, -, h⟩ <;> simp [h]
  case cmdBaud6 => rcases baudRequest_cases (baudRate 6) s with ⟨-, h⟩ | ⟨-, -, h⟩ <;> simp [h]
  case cmdBaud7 => rcases baudRequest_cases (baudRate 7) s with ⟨-, h⟩ | ⟨-, -, h⟩ <;> simp [h]
  case thM2 b => simp only [afterExec_thM2]; split <;> simp
  case thM3 b => simp only [afterExec_thM3]; split <;> simp
  case thChk b => simp only [afterExec_thChk]; split <;> (try split) <;> simp
  case binLenLo b => simp only [afterExec_binLenLo]; split <;> simp
  case pxB b => simp only [afterExec_pxB]; split <;> simp
  all_goals simp [pairingHandoff_eq]

@[simp] theorem afterExec_cfg (i : Instr) (s : State) : (afterExec i s).cfg = s.cfg := (afterExec_frame i s).1

@[simp] theorem afterExec_sampled (i : Instr) (s : State) : (afterExec i s).sampled = s.sampled := (afterExec_frame i s).2.1

@[simp] theorem afterExec_start (i : Instr) (s : State) : (afterExec i s).start = s.start := (afterExec_frame i s).2.2.1

@[simp] theorem afterExec_inputs (i : Instr) (s : State) : (afterExec i s).inputs = s.inputs := (afterExec_frame i s).2.2.2.1

@[simp] theorem afterExec_schedule (i : Instr) (s : State) : (afterExec i s).schedule = s.schedule := (afterExec_frame i s).2.2.2.2

/-! ## Runs of byte steps -/

/-- With RX empty there is nothing to drain. -/
theorem drain_of_rx_nil (n : Nat) {s : State} (h : s.rx = []) : drain n s = s := by
  cases n <;> simp only [drain, h]

theorem drain_succ_of_rx_cons (n : Nat) {s : State} {b : Byte} {rest : List Byte} (h : s.rx = b :: rest) :
    drain (n + 1) s = drain n (afterExec (decode s.state b) s) := by
  simp only [drain, h]

/-- A run of byte steps may be cut anywhere. -/
theorem drain_add (m n : Nat) (s : State) : drain (m + n) s = drain n (drain m s) := by
  induction m generalizing s with
  | zero => rw [Nat.zero_add]; rfl
  | succ m ih =>
    rw [Nat.add_right_comm]
    cases h : s.rx with
    | nil => rw [drain_of_rx_nil _ h, drain_of_rx_nil _ h, drain_of_rx_nil _ h]
    | cons b rest => rw [drain_succ_of_rx_cons _ h, drain_succ_of_rx_cons _ h, ih]

end Sys2Proof.Machine
end

