-- ==== Sys2Proof/Laws/PerInstr.lean ====
section
/-! SUPPORT. Statements made of every instruction as syntax, one lemma per constructor. -/

/-- An instruction of the idle position is written as one of the 19 lead values, or it is noise (spec R81). -/
def Sys2Proof.Laws.LeadValue.Statement (i : Sys2Proof.Instr) : Prop :=
  i.position = .idle → i.byte ∈ Sys2Proof.leadValues ∨ i = .noise i.byte

namespace Sys2Proof.Laws.LeadValue

theorem thStart : Statement .thStart := fun _ => .inl (by decide)
theorem binStart : Statement .binStart := fun _ => .inl (by decide)
theorem pairHandoff : Statement .pairHandoff := fun _ => .inl (by decide)
theorem reqHandoff : Statement .reqHandoff := fun _ => .inl (by decide)
theorem cmdVersion : Statement .cmdVersion := fun _ => .inl (by decide)
theorem cmdBoot : Statement .cmdBoot := fun _ => .inl (by decide)
theorem cmdReconnect : Statement .cmdReconnect := fun _ => .inl (by decide)
theorem cmdBaud0 : Statement .cmdBaud0 := fun _ => .inl (by decide)
theorem cmdBaud1 : Statement .cmdBaud1 := fun _ => .inl (by decide)
theorem cmdBaud2 : Statement .cmdBaud2 := fun _ => .inl (by decide)
theorem cmdBaud3 : Statement .cmdBaud3 := fun _ => .inl (by decide)
theorem cmdBaud4 : Statement .cmdBaud4 := fun _ => .inl (by decide)
theorem cmdBaud5 : Statement .cmdBaud5 := fun _ => .inl (by decide)
theorem cmdBaud6 : Statement .cmdBaud6 := fun _ => .inl (by decide)
theorem cmdBaud7 : Statement .cmdBaud7 := fun _ => .inl (by decide)
theorem cmdReadText : Statement .cmdReadText := fun _ => .inl (by decide)
theorem cmdReadBin : Statement .cmdReadBin := fun _ => .inl (by decide)
theorem cmdContOff : Statement .cmdContOff := fun _ => .inl (by decide)
theorem cmdContOn : Statement .cmdContOn := fun _ => .inl (by decide)
theorem noise (b : Byte) : Statement (.noise b) := fun _ => .inr rfl
theorem thM2 (b : Byte) : Statement (.thM2 b) := fun h => nomatch h
theorem thM3 (b : Byte) : Statement (.thM3 b) := fun h => nomatch h
theorem thCntHi (b : Byte) : Statement (.thCntHi b) := fun h => nomatch h
theorem thCntLo (b : Byte) : Statement (.thCntLo b) := fun h => nomatch h
theorem thChk (b : Byte) : Statement (.thChk b) := fun h => nomatch h
theorem binData : Statement .binData := fun h => nomatch h
theorem binPing : Statement .binPing := fun h => nomatch h
theorem binUnsupported (b : Byte) : Statement (.binUnsupported b) := fun h => nomatch h
theorem binLenHi (b : Byte) : Statement (.binLenHi b) := fun h => nomatch h
theorem binLenLo (b : Byte) : Statement (.binLenLo b) := fun h => nomatch h
theorem pxR (b : Byte) : Statement (.pxR b) := fun h => nomatch h
theorem pxG (b : Byte) : Statement (.pxG b) := fun h => nomatch h
theorem pxB (b : Byte) : Statement (.pxB b) := fun h => nomatch h

end Sys2Proof.Laws.LeadValue
end

