-- ==== Sys2Proof/Laws/Step.lean ====
section
/-! SUPPORT. What a step can do, said once: the inversion lemmas of the block's move and of a scheduled move. -/

namespace Sys2Proof.Machine

/-- The block's move: a poll, the end of the byte loop, a byte step with its budget test, or the end of the invocation
(R112). -/
theorem blockStep_cases {s t : State} (h : blockStep s = .next t) :
    (s.phase = .between ∧ t = poll s) ∨
    (s.phase = .draining ∧ s.rx = [] ∧ t = endLoop s) ∨
    (∃ b rest, s.phase = .draining ∧ s.rx = b :: rest ∧ t = afterByte (afterExec (decode s.state b) s)) ∨
    (s.phase = .scheduling ∧ t = finishInvocation s) := by
  unfold blockStep at h
  cases hp : s.phase <;> simp only [hp] at h
  · exact .inl ⟨rfl, by cases h; rfl⟩
  · cases hr : s.rx with
    | nil =>
      simp only [hr, decodeStream] at h
      exact .inr (.inl ⟨rfl, rfl, by cases h; rfl⟩)
    | cons b rest =>
      simp only [hr, decodeStream, exec_eq_next, stepAfterByte] at h
      exact .inr (.inr (.inl ⟨b, rest, rfl, rfl, by cases h; rfl⟩))
  · exact .inr (.inr (.inr ⟨rfl, by cases h; rfl⟩))

/-- A step: the block's move, a poll the host makes between invocations, or a move of the outside world (R10, R112). -/
theorem step_cases {s t : State} (h : step s = .next t) :
    (s.schedule = [] ∧ blockStep s = .next t) ∨
    ∃ m ms, s.schedule = m :: ms ∧
      ((m = .run ∧ blockStep { s with schedule := ms } = .next t) ∨
       (m = .invoke ∧ s.phase = .between ∧ t = poll { s with schedule := ms }) ∨
       (∃ bytes, m = .arrive bytes ∧ t = { s with schedule := ms, rx := s.rx ++ bytes }) ∨
       (∃ n, m = .transmit n ∧ t = sendBytes n { s with schedule := ms }) ∨
       (∃ i, m = .inputs i ∧ t = { s with schedule := ms, inputs := i }) ∨
       (∃ c, m = .foreign c ∧ t = applyShared c { s with schedule := ms }) ∨
       (m = .clearReconnect ∧ t = { s with schedule := ms, forceReconnect := false }) ∨
       (m = .restart ∧ t = restart { s with schedule := ms }) ∨
       (m = .resetInput ∧ t = resetBlock { s with schedule := ms })) := by
  unfold step nextMove at h
  cases hs : s.schedule with
  | nil =>
    simp only [hs] at h
    exact .inl ⟨rfl, h⟩
  | cons m ms =>
    simp only [hs] at h
    refine .inr ⟨m, ms, rfl, ?_⟩
    cases m <;> simp only [moveStep] at h
    case run => exact .inl ⟨rfl, h⟩
    case invoke =>
      unfold hostInvoke at h
      cases hp : s.phase <;> simp only [hp] at h
      · exact .inr (.inl ⟨rfl, rfl, by cases h; rfl⟩)
      · cases h
      · cases h
    case arrive bytes => exact .inr (.inr (.inl ⟨bytes, rfl, by cases h; rfl⟩))
    case transmit n => exact .inr (.inr (.inr (.inl ⟨n, rfl, by cases h; rfl⟩)))
    case inputs i => exact .inr (.inr (.inr (.inr (.inl ⟨i, rfl, by cases h; rfl⟩))))
    case foreign c => exact .inr (.inr (.inr (.inr (.inr (.inl ⟨c, rfl, by cases h; rfl⟩)))))
    case clearReconnect => exact .inr (.inr (.inr (.inr (.inr (.inr (.inl ⟨rfl, by cases h; rfl⟩))))))
    case restart => exact .inr (.inr (.inr (.inr (.inr (.inr (.inr (.inl ⟨rfl, by cases h; rfl⟩)))))))
    case resetInput => exact .inr (.inr (.inr (.inr (.inr (.inr (.inr (.inr ⟨rfl, by cases h; rfl⟩)))))))

/-- The poll: the entry of an invocation, or nothing (R111, R112). -/
theorem poll_cases (s : State) :
    (proceed s.inputs = true ∧
      poll s =
        { s with
          sampled := s.inputs, now := s.now + Config.elapsed s.draws, draws := s.draws + 1
          start := s.now + Config.elapsed s.draws, phase := .draining }) ∨
    (proceed s.inputs = false ∧ poll s = s) := by
  unfold poll
  split
  · exact .inl ⟨‹_›, rfl⟩
  · rename_i h
    exact .inr ⟨by simpa using h, rfl⟩

/-- After a byte: the clock is read and the budget test made, or, after a pairing hand-off, nothing (R112, R116). -/
theorem afterByte_cases (s : State) :
    (s.phase = .draining ∧ budgetMs < s.now + Config.elapsed s.draws - s.start ∧
      afterByte s =
        { s with
          now := s.now + Config.elapsed s.draws, draws := s.draws + 1
          trace := s.trace ++ [.diag .budgetNote], phase := .scheduling }) ∨
    (s.phase = .draining ∧ ¬ budgetMs < s.now + Config.elapsed s.draws - s.start ∧
      afterByte s = { s with now := s.now + Config.elapsed s.draws, draws := s.draws + 1 }) ∨
    (s.phase ≠ .draining ∧ afterByte s = s) := by
  unfold afterByte
  cases hp : s.phase
  · exact .inr (.inr ⟨by simp, rfl⟩)
  · dsimp only [budgetTest]
    split
    · rename_i h
      refine .inl ⟨rfl, h, ?_⟩
      simp [readClock, diag]
    · rename_i h
      refine .inr (.inl ⟨rfl, h, ?_⟩)
      simp [readClock, hp]
  · exact .inr (.inr ⟨by simp, rfl⟩)

end Sys2Proof.Machine
end

