-- ==== Sys2Proof/Tests/Slice0.lean ====
section
/-! SUPPORT. The author's tests. Expected values are those of the spec's 95_test_vectors.md (the vector stands in the
comment) or worked out by hand from the rule named; then one witness for the hypotheses of each obligation. -/

namespace Sys2Proof.Tests

open Sys2Proof.Machine

/-! ## A small platform and its states -/

/-- The parameters of 95_test_vectors.md, with short reply strings of the test's own. -/
def cfg : Config where
  pixelCount := 4
  thM2 := 0x64
  thM3 := 0x61
  defaultBaud := 115200
  baudMin := 9600
  claimTag := 7
  binWhiteIn := 0
  versionReply := [0x57, 0x31]
  errNobufReply := [0x45]
  bootCap := true
  tokenType := .finite 4294967295
  tokenReset := 0
  newline := [0x0A]

/-- A byte loop in progress in position `p` with `rx` received. -/
def loopAt (p : DecoderState) (rx : List Byte) : State :=
  { State.reset with
    cfg := cfg, state := p, rx := rx, baud := 115200, linkRate := 115200, lastToken := 0, token := 0, phase := .draining }

/-- The same in the idle position with continuous mode on. -/
def continuousAt (rx : List Byte) : State := { loopAt .idle rx with continuous := true }

/-- A pixel position with a pixel half received. -/
def pixelAt (p : DecoderState) (count idx : Half) (r g : Byte) (rx : List Byte) : State :=
  { loopAt p rx with count := count, idx := idx, r := r, g := g }

/-- The cells of vectors V46.1 and V46.2. -/
def twoCells : Memory := sinkStore 2 (sinkStore 2 [] 0 ⟨1, 2, 3, 0⟩) 1 ⟨250, 10, 0, 10⟩

/-! ## Well-formed terms -/

theorem test_wellFormed_refuses : Instr.wellFormed (.noise 0x41) = false ∧ Instr.wellFormed (.noise 0x4F) = false ∧
    Instr.wellFormed (.binUnsupported 0xDA) = false ∧ Instr.wellFormed (.binUnsupported 0xAA) = false := by decide

theorem test_wellFormed_accepts : Instr.wellFormed (.noise 0xAA) = true ∧ Instr.wellFormed (.binUnsupported 0xC9) = true ∧
    Instr.wellFormed (.thM2 0x41) = true ∧ Instr.wellFormed .cmdContOn = true := by decide

/-! ## Decoding: each constructor from a word written out from R81, R83, R86, R88 and R89 -/

theorem test_decode_starts : decode .idle 0b01000001#8 = .thStart ∧ decode .idle 0b11001001#8 = .binStart ∧
    decode .idle 0b01001001#8 = .pairHandoff ∧ decode .idle 0b01111011#8 = .reqHandoff := by decide

theorem test_decode_commands : decode .idle 0b01110110#8 = .cmdVersion ∧ decode .idle 0b01011110#8 = .cmdBoot ∧
    decode .idle 0b01011000#8 = .cmdReconnect ∧ decode .idle 0b01101100#8 = .cmdReadText ∧
    decode .idle 0b01001100#8 = .cmdReadBin ∧ decode .idle 0b01101111#8 = .cmdContOff ∧
    decode .idle 0b01001111#8 = .cmdContOn ∧ decode .idle 0b01100100#8 = .noise 0x64 := by decide

theorem test_decode_baud : decode .idle 0b10110000#8 = .cmdBaud0 ∧ decode .idle 0b10110001#8 = .cmdBaud1 ∧
    decode .idle 0b10110010#8 = .cmdBaud2 ∧ decode .idle 0b10110011#8 = .cmdBaud3 ∧
    decode .idle 0b10110100#8 = .cmdBaud4 ∧ decode .idle 0b10110101#8 = .cmdBaud5 ∧
    decode .idle 0b10110110#8 = .cmdBaud6 ∧ decode .idle 0b10110111#8 = .cmdBaud7 ∧
    decode .idle 0b10111000#8 = .noise 0xB8 := by decide

theorem test_decode_text_header : decode .thM2 0b01000001#8 = .thM2 0x41 ∧ decode .thM3 0b01100001#8 = .thM3 0x61 ∧
    decode .thCntHi 0b11111111#8 = .thCntHi 0xFF ∧ decode .thCntLo 0b00000001#8 = .thCntLo 0x01 ∧
    decode .thChk 0b01010101#8 = .thChk 0x55 := by decide

theorem test_decode_binary : decode .binType 0b11011010#8 = .binData ∧ decode .binType 0b10101010#8 = .binPing ∧
    decode .binType 0b01000001#8 = .binUnsupported 0x41 ∧ decode .binLenHi 0b00000001#8 = .binLenHi 0x01 ∧
    decode .binLenLo 0b00000010#8 = .binLenLo 0x02 := by decide

theorem test_decode_pixels : decode .pxR 0b01001001#8 = .pxR 0x49 ∧ decode .pxG 0b01111011#8 = .pxG 0x7B ∧
    decode .pxB 0b01001111#8 = .pxB 0x4F := by decide

theorem test_decode_no_byte : decodeStream .idle [] = .error .noByte ∧
    decodeStream .binType [0xAA, 0x01] = .ok (.binPing, [0x01]) := ⟨rfl, rfl⟩

theorem test_table_word : decodeTableWord 8 0x41 = some .thStart ∧ decodeTableWord 8 0xDA = some .binData ∧
    decodeTableWord 8 0x00 = some (.noise 0x00) ∧ decodeTableWord 8 0x1B3 = some .cmdBaud3 := by decide

/-! ## The text header (V42.1 to V42.14, V60.1 to V60.3) -/

theorem test_thStart : (afterExec .thStart (continuousAt [0x41, 0x64])).state = .thM2 ∧
    (afterExec .thStart (continuousAt [0x41, 0x64])).rx = [0x64] ∧
    (afterExec .thStart (continuousAt [0x41])).continuous = false := by decide

/-- V42.1, V42.9. -/
theorem test_thM2 : (afterExec (.thM2 0x64) (loopAt .thM2 [0x64])).state = .thM3 ∧
    (afterExec (.thM2 0x41) (loopAt .thM2 [0x41])).state = .idle ∧
    (afterExec (.thM2 0x41) (loopAt .thM2 [0x41])).errors = [.framing] := by decide

/-- V42.2, V60.2. -/
theorem test_thM3 : (afterExec (.thM3 0x61) (loopAt .thM3 [0x61])).state = .thCntHi ∧
    (afterExec (.thM3 0x62) (loopAt .thM3 [0x62])).errors = [.framing] := by decide

/-- V42.3, S8. -/
theorem test_thCntHi : (afterExec (.thCntHi 0x01) (loopAt .thCntHi [0x01])).count = 0x0100 ∧
    (afterExec (.thCntHi 0xFF) (loopAt .thCntHi [0xFF])).chk = 0xFF := by decide

/-- V42.4, S8: the wrap to zero. -/
theorem test_thCntLo :
    let s := { loopAt .thCntLo [0x2B] with count := 0x0100, chk := 0x01 }
    let z := { loopAt .thCntLo [0xFF] with count := 0xFF00, chk := 0xFF }
    (afterExec (.thCntLo 0x2B) s).count = 300 ∧ (afterExec (.thCntLo 0x2B) s).chk = 0x7F ∧
      (afterExec (.thCntLo 0xFF) z).count = 0 ∧ (afterExec (.thCntLo 0xFF) z).chk = 0x55 := by decide

/-- V42.5, V42.6. -/
theorem test_thChk_pixels :
    let s := { loopAt .thChk [0x7F] with count := 300, chk := 0x7F }
    (afterExec (.thChk 0x7F) s).state = .pxR ∧ (afterExec (.thChk 0x7F) s).count = 300 ∧
      (afterExec (.thChk 0x7E) s).state = .idle ∧ (afterExec (.thChk 0x7E) s).count = 0 := by decide

/-- V42.12, V42.13. -/
theorem test_thChk_empty :
    let s := { loopAt .thChk [0x55] with chk := 0x55 }
    (afterExec (.thChk 0x55) s).trace = [.claim 7 0, .flush] ∧ (afterExec (.thChk 0x55) s).state = .idle ∧
      (afterExec (.thChk 0x54) s).trace = [] := by decide

/-! ## The binary header (V43.1 to V43.15) -/

theorem test_binStart : (afterExec .binStart (continuousAt [0xC9])).state = .binType ∧
    (afterExec .binStart (continuousAt [0xC9])).continuous = false := by decide

/-- V43.1. -/
theorem test_binData : (afterExec .binData (loopAt .binType [0xDA])).state = .binLenHi := by decide

/-- V43.4, S3. -/
theorem test_binPing : (afterExec .binPing (loopAt .binType [0xAA])).tx = [0xAC] ∧
    (afterExec .binPing (loopAt .binType [0xAA])).state = .idle ∧
    (afterExec .binPing (loopAt .binType [0xAA])).mem = [] := by decide

/-- V43.6: not a restart. -/
theorem test_binUnsupported : (afterExec (.binUnsupported 0xC9) (loopAt .binType [0xC9])).state = .idle ∧
    (afterExec (.binUnsupported 0xC9) (loopAt .binType [0xC9])).errors = [.unsupportedSubcommand] := by decide

/-- V43.2. -/
theorem test_binLenHi : (afterExec (.binLenHi 0x01) (loopAt .binLenHi [0x01])).count = 0x0100 ∧
    (afterExec (.binLenHi 0x01) (loopAt .binLenHi [0x01])).state = .binLenLo := by decide

/-- V43.3, V43.15. -/
theorem test_binLenLo_pixels :
    (afterExec (.binLenLo 0x02) { loopAt .binLenLo [0x02] with count := 0x0100 }).count = 86 ∧
      (afterExec (.binLenLo 0x02) { loopAt .binLenLo [0x02] with count := 0x0100 }).bin = true ∧
      (afterExec (.binLenLo 0xFF) { loopAt .binLenLo [0xFF] with count := 0xFF00 }).count = 21845 := by decide

/-- V43.10, V43.12. -/
theorem test_binLenLo_short : (afterExec (.binLenLo 0x02) (loopAt .binLenLo [0x02])).trace = [.claim 7 0, .flush] ∧
    (afterExec (.binLenLo 0x02) (loopAt .binLenLo [0x02])).state = .idle ∧
    (afterExec (.binLenLo 0x04) (loopAt .binLenLo [0x04])).count = 1 := by decide

/-! ## Pixel data (V43.17, V44.1 to V44.11) -/

/-- V44.1, V44.6. -/
theorem test_pxR : (afterExec (.pxR 0x10) (pixelAt .pxR 2 0 0 0 [0x10])).r = 0x10 ∧
    (afterExec (.pxR 0x49) (pixelAt .pxR 1 0 0 0 [0x49])).state = .pxG := by decide

/-- V44.2. -/
theorem test_pxG : (afterExec (.pxG 0x20) (pixelAt .pxG 2 0 0x10 0 [0x20])).g = 0x20 ∧
    (afterExec (.pxG 0x20) (pixelAt .pxG 2 0 0x10 0 [0x20])).r = 0x10 := by decide

/-- V44.3. -/
theorem test_pxB :
    let t := afterExec (.pxB 0x30) (pixelAt .pxB 2 0 0x10 0x20 [0x30])
    t.trace = [.write 0 ⟨0x10, 0x20, 0x30, 0⟩] ∧ t.count = 1 ∧ t.idx = 1 ∧ sinkRead t.mem 0 = ⟨16, 32, 48, 0⟩ := by decide

/-- V44.4, and the dropped write of V44.7. -/
theorem test_pxB_last :
    let t := afterExec (.pxB 0x7F) (pixelAt .pxB 1 1 0xFF 0x00 [0x7F])
    t.trace = [.write 1 ⟨0xFF, 0, 0x7F, 0⟩, .claim 7 0, .flush] ∧ t.state = .idle ∧ t.shown = t.mem ∧
      (afterExec (.pxB 6) (pixelAt .pxB 2 4 4 5 [6])).mem = [] := by decide

/-- V44.8 to V44.11, V43.17. -/
theorem test_composite : composite ⟨250, 10, 0, 10⟩ = ⟨255, 20, 10, 0⟩ ∧ composite ⟨1, 2, 3, 0⟩ = ⟨1, 2, 3, 0⟩ ∧
    composite ⟨255, 255, 255, 255⟩ = ⟨255, 255, 255, 0⟩ ∧ composite ⟨0, 0, 0, 255⟩ = ⟨255, 255, 255, 0⟩ ∧
    pixelToWrite true 0x0A 0xFA 0x0A 0x00 = ⟨0xFF, 0x14, 0x0A, 0⟩ ∧
    pixelToWrite false 0x0A 0xFA 0x0A 0x00 = ⟨0xFA, 0x0A, 0x00, 0⟩ := by decide

/-! ## Commands (V45.1 to V45.21) and hand-offs (V41.3 to V41.9) -/

theorem test_cmdVersion : (afterExec .cmdVersion (continuousAt [0x76])).tx = [0x57, 0x31] ∧
    (afterExec .cmdVersion (continuousAt [0x76])).continuous = false := by decide

theorem test_cmdReconnect : (afterExec .cmdReconnect (loopAt .idle [0x58])).forceReconnect = true ∧
    (afterExec .cmdReconnect (loopAt .idle [0x58])).trace = [.reconnect] := by decide

/-- V45.5: the three outcomes; a restart is pending only after a switch. -/
theorem test_bootRequest :
    (bootRequest ⟨1, 1, true⟩ (loopAt .idle [])).restartPending = true ∧
      (bootRequest ⟨1, 1, false⟩ (loopAt .idle [])).trace = [.boot, .diag .bootReport] ∧
      (bootRequest ⟨1, 2, true⟩ (loopAt .idle [])).trace = [.boot, .diag .bootReport] ∧
      (bootRequest ⟨1, 2, true⟩ (loopAt .idle [])).restartPending = false := by decide

/-- V45.6. -/
theorem test_cmdBoot_without_capability :
    (afterExec .cmdBoot { loopAt .idle [0x5E] with cfg := { cfg with bootCap := false } }).trace = [] := by decide

/-- V45.9, V45.17. -/
theorem test_cmdBaud0 : (afterExec .cmdBaud0 (loopAt .idle [0xB0])).trace = [] ∧
    (afterExec .cmdBaud0 { loopAt .idle [0xB0] with baud := 500000 }).trace = [.drain, .reopen 115200] := by decide

theorem test_cmdBaud1 : (afterExec .cmdBaud1 (loopAt .idle [0xB1])).baud = 230400 := by decide

theorem test_cmdBaud2 : (afterExec .cmdBaud2 (loopAt .idle [0xB2])).baud = 460800 := by decide

/-- S5, V45.19: what is pending leaves at the old rate. -/
theorem test_cmdBaud3 :
    (afterExec .cmdBaud3 (loopAt .idle [0xB3])).baud = 500000 ∧
      (afterExec .cmdBaud3 { loopAt .idle [0xB3] with tx := [0x57] }).line = [⟨0x57, 115200⟩] ∧
      (afterExec .cmdBaud3 { loopAt .idle [0xB3] with tx := [0x57] }).linkRate = 500000 ∧
      (afterExec .cmdBaud3 { loopAt .idle [0xB3] with baud := 500000 }).trace = [] := by decide

theorem test_cmdBaud4 : (afterExec .cmdBaud4 (loopAt .idle [0xB4])).baud = 576000 := by decide

theorem test_cmdBaud5 : (afterExec .cmdBaud5 (loopAt .idle [0xB5])).baud = 921600 := by decide

theorem test_cmdBaud6 : (afterExec .cmdBaud6 (loopAt .idle [0xB6])).baud = 1000000 := by decide

theorem test_cmdBaud7 : (afterExec .cmdBaud7 (loopAt .idle [0xB7])).trace = [.drain, .reopen 1500000] := by decide

/-- V45.3. -/
theorem test_cmdReadText :
    (afterExec .cmdReadText
      { loopAt .idle [0x6C] with cfg := { cfg with pixelCount := 1 }, mem := sinkStore 1 [] 0 ⟨1, 2, 3, 4⟩ }).tx =
      [0x5B, 0x36, 0x37, 0x31, 0x37, 0x34, 0x39, 0x31, 0x35, 0x5D, 0x0A] := by decide

/-- V45.4. -/
theorem test_cmdReadBin :
    (afterExec .cmdReadBin
      { loopAt .idle [0x4C] with cfg := { cfg with pixelCount := 1 }, mem := sinkStore 1 [] 0 ⟨1, 2, 3, 4⟩ }).tx =
      [0xC9, 0xDA, 0x00, 0x03, 0x05, 0x06, 0x07, 0x36, 0x0A] := by decide

theorem test_cmdContOff : (afterExec .cmdContOff (continuousAt [0x6F])).continuous = false := by decide

theorem test_cmdContOn : (afterExec .cmdContOn (loopAt .idle [0x4F])).continuous = true := by decide

/-- V45.20, S4. -/
theorem test_noise : (afterExec (.noise 0x00) (continuousAt [0x00])).continuous = false ∧
    (afterExec (.noise 0xAA) (loopAt .idle [0xAA])).trace = [] := by decide

/-- V41.3, V41.9: the collaborator takes one byte, the invocation ends, continuous mode stays. -/
theorem test_pairHandoff :
    let t := pairingHandoff ⟨0, [], ⟨[], 0, none⟩⟩ (continuousAt [0x49, 0x76])
    t.rx = [0x76] ∧ t.phase = .between ∧ t.continuous = true ∧ t.trace = [.pair] := by decide

/-- V41.4, V41.7: ten bytes taken; the error reply. -/
theorem test_requestHandoff :
    let s := loopAt .idle [0x7B, 1, 2, 3, 4, 5, 6, 7, 8, 9]
    (requestHandoff ⟨9, .okQuiet, [], ⟨[], 0, none⟩⟩ s).rx = [] ∧
      (requestHandoff ⟨9, .okQuiet, [], ⟨[], 0, none⟩⟩ s).trace = [.request] ∧
      (requestHandoff ⟨9, .exhausted, [], ⟨[], 0, none⟩⟩ s).trace = [.request, .tx 0x45] ∧
      (requestHandoff ⟨9, .malformed, [], ⟨[], 0, none⟩⟩ s).errors = [.deserialization] := by decide

/-- V41.8; and a verbose reply is kept back when transmit is not available (D39). -/
theorem test_requestHandoff_replies :
    (clearContinuous 0x7B (requestHandoff ⟨0, .okQuiet, [], ⟨[], 0, none⟩⟩ (continuousAt [0x7B]))).continuous = false ∧
      (requestHandoff ⟨0, .okVerbose, [0x21], ⟨[], 0, none⟩⟩ (loopAt .idle [0x7B])).tx = [0x21] ∧
      (requestHandoff ⟨0, .okVerbose, [0x21], ⟨[], 0, none⟩⟩
        { loopAt .idle [0x7B] with sampled := { HostInputs.clear with txClaimed := true } }).tx = [] := by decide

/-! ## Readback and the scheduler (V46.1 to V46.11) -/

theorem test_readback_binary :
    readbackBinary 2 twoCells = [0xC9, 0xDA, 0x00, 0x06, 1, 2, 3, 0xFF, 0x14, 0x0A, 0x36, 0x0A] ∧
      readbackBinary 0 [] = [0xC9, 0xDA, 0, 0, 0x36, 0x0A] ∧ readbackLength 21846 = 2 := by decide

theorem test_readback_text :
    readbackText 2 twoCells [0x0A] = [0x5B, 0x36, 0x36, 0x30, 0x35, 0x31, 0x2C, 0x31, 0x38, 0x34, 0x31, 0x35, 0x38] ++
        [0x37, 0x32, 0x30, 0x5D, 0x0A] ∧
      readbackText 0 [] [0x0A] = [0x5B, 0x5D, 0x0A] ∧ readbackText 1 [] [0x0A] = [0x5B, 0x30, 0x5D, 0x0A] ∧
      decimal 4294967295 = [0x34, 0x32, 0x39, 0x34, 0x39, 0x36, 0x37, 0x32, 0x39, 0x35] := by decide

/-- V46.9, V46.10, V46.11. -/
theorem test_scheduler :
    let s := { continuousAt [] with cfg := { cfg with pixelCount := 2 }, mem := twoCells, lastToken := 5, token := 6 }
    (schedulerStep s).tx = [0xC9, 0xDA, 0x00, 0x06, 1, 2, 3, 0xFF, 0x14, 0x0A, 0x36, 0x0A] ∧
      (schedulerStep s).lastToken = 6 ∧ (schedulerStep { s with lastToken := 6 }).tx = [] ∧
      (schedulerStep { s with continuous := false }).lastToken = 5 := by decide

/-! ## The invocation (V40.1 to V40.11) -/

theorem test_proceed : proceed HostInputs.clear = true ∧
    proceed { HostInputs.clear with txClaimed := true, txOwnerDiag := true } = true ∧
    proceed { HostInputs.clear with txClaimed := true } = false ∧
    proceed { HostInputs.clear with rxClaimed := true } = false ∧
    proceed { HostInputs.clear with rtExclusiveOther := true } = false ∧
    proceed { HostInputs.clear with interactiveBusy := true } = false := by decide

/-- V40.8. -/
theorem test_poll_guard_false :
    let s := { continuousAt [0x76] with phase := .between, token := 6, inputs := { HostInputs.clear with rxClaimed := true } }
    poll s = s := rfl

/-- V40.10: strictly more than 100 ms ends the loop; 100 ms does not; the clock wraps (R116, D18). -/
theorem test_budget :
    (budgetTest 101 (loopAt .idle [0x76, 0x76])).trace = [.diag .budgetNote] ∧
      (budgetTest 101 (loopAt .idle [0x76, 0x76])).phase = .scheduling ∧
      (budgetTest 100 (loopAt .idle [0x76, 0x76])).phase = .draining ∧
      (budgetTest 20 { loopAt .idle [] with start := 0xFFFFFFF0, now := 0xFFFFFFF8 }).phase = .draining := by decide

/-- V40.9: the first step of an invocation with an empty RX, and its last. -/
theorem test_step_end_of_loop : step (loopAt .idle []) = .next { loopAt .idle [] with phase := .scheduling } := rfl

theorem test_step_ping : ∃ t, step (loopAt .binType [0xAA, 0x76]) = .next (afterByte t) ∧ t.tx = [0xAC] ∧ t.rx = [0x76] :=
  ⟨_, rfl, by decide, by decide⟩

theorem test_step_overlap :
    step { loopAt .idle [] with schedule := [.invoke] } = .refused .overlappingInvocation := rfl

/-- The step after `withFetchWord` runs the word's instruction, as the first after reset too. -/
theorem test_withFetchWord :
    step (State.reset.withFetchWord 8 0x58) =
        stepAfterByte (exec .cmdReconnect { State.reset with rx := [0x58], phase := .draining }) ∧
      step (State.reset.withFetchWord 8 0xDA) =
        stepAfterByte (exec .binData { State.reset with state := .binType, rx := [0xDA], phase := .draining }) :=
  ⟨rfl, rfl⟩

/-! ## Memory -/

theorem test_memory_canonical : Memory.write (Memory.write [] 9 5) 3 7 = [(3, 7), (9, 5)] ∧
    Memory.write [(3, 7), (9, 5)] 3 0 = [(9, 5)] ∧ Memory.read [(3, 7), (9, 5)] 9 = 5 ∧
    Memory.wf [(3, 7), (9, 5)] = true ∧ Memory.wf [(9, 5), (3, 7)] = false ∧ Memory.wf [(3, 0)] = false := by decide

/-- R62, R70: a flush shows the cells of its moment, and a write after it is not shown. -/
theorem test_sinkActs :
    let acts : List SinkAct := [.write 0 ⟨1, 2, 3, 4⟩, .flush, .write 0 ⟨9, 0, 0, 0⟩]
    sinkRead (sinkActs 1 acts [] []).1 0 = ⟨9, 0, 0, 0⟩ ∧ sinkRead (sinkActs 1 acts [] []).2 0 = ⟨1, 2, 3, 4⟩ := by decide

/-- R6, D34: a token type of one value, and the spec's default of 32 bits. -/
theorem test_tokenType : TokenType.value (.finite 0) 7 = 0 ∧ TokenType.value (.finite 4294967295) 4294967296 = 0 ∧
    TokenType.value .unbounded 4294967296 = 4294967296 ∧ TokenType.has (.finite 4294967295) 4294967296 = false := by decide

/-! ## Witnesses: states and operands that meet the hypotheses of the obligations -/

theorem witness_ResetInputRestoresTheRegisters :
    { pixelAt .pxG 2 1 9 8 [7] with schedule := [.resetInput, .run] }.schedule = .resetInput :: [.run] := rfl

theorem witness_RestartNeedsASchedule :
    { loopAt .idle [] with schedule := [.restart] }.schedule = .restart :: [] ∧
      { loopAt .idle [] with schedule := [.restart] }.restartPending = false ∧
      { loopAt .idle [] with schedule := [.restart], restartPending := true }.restartPending = true := by decide

theorem witness_PairingHandoffEndsTheInvocation : (loopAt .idle [0x49, 0x76]).rx ≠ [] := by decide

theorem witness_RequestHandoffSendsItsReply : (loopAt .idle [0x7B]).rx ≠ [] := by decide

theorem witness_BootToggleSchedulesOrReports : (loopAt .idle [0x5E]).cfg.bootCap = true ∧
    { loopAt .idle [0x5E] with cfg := { cfg with bootCap := false } }.cfg.bootCap = false := by decide

/-- Both clauses of a request, at the threshold and below it, and both clauses of a command. -/
theorem witness_BaudCommandsReopenTheLink :
    (115200 : Rate) = (loopAt .idle []).baud ∧ (9599 : Rate).toNat < (loopAt .idle []).cfg.baudMin.val ∧
      (9600 : Rate) ≠ (loopAt .idle []).baud ∧ (loopAt .idle []).cfg.baudMin.val ≤ (9600 : Rate).toNat ∧
      (Instr.cmdBaud3, (0xB3 : Byte), (500000 : Rate)) ∈ baudCommands ∧
      (500000 : Rate) = { loopAt .idle [] with baud := 500000 }.baud ∧ (500000 : Rate) ≠ (loopAt .idle []).baud := by
  decide

theorem witness_NoiseIsDiscarded : (0x00 : Byte) ∉ leadValues ∧ (0xB8 : Byte) ∉ leadValues ∧ (0xFF : Byte) ∉ leadValues := by
  decide

theorem witness_TextMagicBytesAdvanceOrReset :
    (0x64 : Byte) = (loopAt .thM2 []).cfg.thM2 ∧ (0x41 : Byte) ≠ (loopAt .thM2 []).cfg.thM2 ∧
      (0x61 : Byte) = (loopAt .thM3 []).cfg.thM3 ∧ (0x41 : Byte) ≠ (loopAt .thM3 []).cfg.thM3 := by decide

theorem witness_ChecksumByteDecidesTheFrame :
    (0x54 : Byte) ≠ { loopAt .thChk [] with chk := 0x55 }.chk ∧ (0x55 : Byte) = { loopAt .thChk [] with chk := 0x55 }.chk ∧
      { loopAt .thChk [] with chk := 0x55, count := 1 }.count ≠ 0 ∧ (loopAt .thChk []).count = 0 := by decide

theorem witness_UnsupportedSubCommandResets : (0xDB : Byte) ≠ 0xDA ∧ (0xDB : Byte) ≠ 0xAA := by decide

theorem witness_BinaryLengthBytesBeginTheFrame :
    ((loopAt .binLenLo []).count ||| (0x03 : Byte).zeroExtend 16) / 3 ≠ 0 ∧
      ((loopAt .binLenLo []).count ||| (0x02 : Byte).zeroExtend 16) / 3 = 0 := by decide

theorem witness_BinaryLengthFromTheWire :
    3 ≤ 256 * (0x00 : Byte).toNat + (0x03 : Byte).toNat ∧ 256 * (0x00 : Byte).toNat + (0x02 : Byte).toNat < 3 := by decide

/-- The last cell of the sink, and the first index beyond it. -/
theorem witness_BlueByteWritesItsCell :
    Memory.wf (pixelAt .pxB 2 3 1 2 [5]).mem = true ∧ (pixelAt .pxB 2 3 1 2 [5]).count - 1 ≠ 0 ∧
      (pixelAt .pxB 2 3 1 2 [5]).idx.toNat < (pixelAt .pxB 2 3 1 2 [5]).cfg.pixelCount ∧
      (pixelAt .pxB 2 4 1 2 [5]).cfg.pixelCount ≤ (pixelAt .pxB 2 4 1 2 [5]).idx.toNat ∧
      11 < chanAddr (pixelAt .pxB 2 3 1 2 [5]).idx.toNat 0 ∧ chanAddr (pixelAt .pxB 2 3 1 2 [5]).idx.toNat 3 < 16 := by decide

theorem witness_LastBlueByteCommits :
    Memory.wf (pixelAt .pxB 1 3 1 2 [5]).mem = true ∧ (pixelAt .pxB 1 3 1 2 [5]).count - 1 = 0 ∧
      (pixelAt .pxB 1 3 1 2 [5]).idx.toNat < (pixelAt .pxB 1 3 1 2 [5]).cfg.pixelCount ∧
      (pixelAt .pxB 1 4 1 2 [5]).cfg.pixelCount ≤ (pixelAt .pxB 1 4 1 2 [5]).idx.toNat := by decide

theorem witness_CompositingSaturates : (false = false ∨ { cfg with binWhiteIn := 10 }.binWhiteIn = 0) ∧
    (true = false ∨ cfg.binWhiteIn = 0) := by decide

/-- A byte of its own, and each of the two hand-off bytes. -/
theorem witness_EveryByteStepConsumes :
    (loopAt .pxR [0x49]).rx = 0x49 :: [] ∧
      exec (decode .pxR 0x49) (loopAt .pxR [0x49]) = .next (afterExec (.pxR 0x49) (loopAt .pxR [0x49])) ∧
      ¬ ((loopAt .pxR [0x49]).state = .idle ∧ ((0x49 : Byte) = 0x49 ∨ (0x49 : Byte) = 0x7B)) ∧
      exec (decode .idle 0x7B) (loopAt .idle [0x7B]) = .next (afterExec .reqHandoff (loopAt .idle [0x7B])) ∧
      (loopAt .idle [0x7B]).state = .idle :=
  ⟨rfl, rfl, by decide, rfl, rfl⟩

/-- `O` in the idle position and in another, another byte, and the pairing lead byte. -/
theorem witness_EveryOtherByteEndsContinuousMode :
    exec (decode .idle 0x4F) (loopAt .idle [0x4F]) = .next (afterExec .cmdContOn (loopAt .idle [0x4F])) ∧
      exec (decode .pxG 0x4F) (loopAt .pxG [0x4F]) = .next (afterExec (.pxG 0x4F) (loopAt .pxG [0x4F])) ∧
      exec (decode .idle 0x50) (continuousAt [0x50]) = .next (afterExec (.noise 0x50) (continuousAt [0x50])) ∧
      exec (decode .idle 0x49) (continuousAt [0x49]) = .next (afterExec .pairHandoff (continuousAt [0x49])) :=
  ⟨rfl, rfl, rfl, rfl⟩

theorem witness_PositionsFollowTheIndex :
    exec (decode (loopAt .binType [0xDA]).state 0xDA) (loopAt .binType [0xDA]) =
      .next (afterExec .binData (loopAt .binType [0xDA])) := rfl

theorem witness_OnlyTwoLeadBytesLeaveIdle :
    (loopAt .idle [0x41]).state = .idle ∧
      exec (decode (loopAt .idle [0x41]).state 0x41) (loopAt .idle [0x41]) =
        .next (afterExec .thStart (loopAt .idle [0x41])) := ⟨rfl, rfl⟩

/-- The one instruction that turns continuous mode on, and one that leaves it off. -/
theorem witness_ControlRegistersHaveTheirWriters :
    exec .cmdContOn (loopAt .idle [0x4F]) = .next (afterExec .cmdContOn (loopAt .idle [0x4F])) ∧
      (afterExec .cmdContOn (loopAt .idle [0x4F])).continuous = true := ⟨rfl, by decide⟩

/-- One instruction under all three clauses. -/
theorem witness_OutputsHaveTheirInstructions :
    exec .cmdReconnect (loopAt .idle [0x58]) = .next (afterExec .cmdReconnect (loopAt .idle [0x58])) ∧
      (∀ b, Instr.cmdReconnect ≠ .pxB b ∧ Instr.cmdReconnect ≠ .thChk b ∧ Instr.cmdReconnect ≠ .binLenLo b) ∧
      Instr.cmdReconnect ∉ [.binPing, .cmdVersion, .cmdReadText, .cmdReadBin, .pairHandoff, .reqHandoff] ∧
      (∀ c ∈ baudCommands, Instr.cmdReconnect ≠ c.1) :=
  ⟨rfl, fun _ => ⟨nofun, nofun, nofun⟩, by decide, by decide⟩

theorem witness_PixelsDoNotSteerTheDecoder :
    exec .cmdReadBin (loopAt .idle [0x4C]) = .next (afterExec .cmdReadBin (loopAt .idle [0x4C])) ∧
      exec .cmdReadBin { loopAt .idle [0x4C] with mem := twoCells, shown := [], token := 9, claim := none } =
        .next (afterExec .cmdReadBin
          { loopAt .idle [0x4C] with mem := twoCells, shown := [], token := 9, claim := none }) := ⟨rfl, rfl⟩

theorem witness_DecimalDigitsDenoteTheColour : (0x04010203 : BitVec 32) ≠ 0 ∧ (0x37 : Byte) ∈ decimal 0x04010203 := by decide

theorem witness_PollObeysTheGuard :
    { loopAt .idle [] with phase := .between }.schedule = [] ∧ { loopAt .idle [] with phase := .between }.phase = .between ∧
      proceed { loopAt .idle [] with phase := .between }.inputs = true ∧
      proceed { loopAt .idle [] with inputs := { HostInputs.clear with interactiveBusy := true } }.inputs = false := by decide

theorem witness_StepRunsTheDecodedInstruction :
    (loopAt .binType [0xAA, 1]).phase = .draining ∧ (loopAt .binType [0xAA, 1]).rx = 0xAA :: [1] ∧
      (loopAt .binType [0xAA, 1]).schedule = [] ∧
      { loopAt .binType [0xAA, 1] with schedule := [.run, .invoke] }.schedule = .run :: [.invoke] := ⟨rfl, rfl, rfl, rfl⟩

theorem witness_BudgetIsTestedAfterEachByte : (loopAt .idle []).phase = .draining ∧
    { loopAt .idle [] with phase := .between }.phase = .between := by decide

theorem witness_SchedulerStepEndsTheInvocation :
    (loopAt .idle []).schedule = [] ∧ (loopAt .idle []).phase = .draining ∧ (loopAt .idle []).rx = [] ∧
      { continuousAt [] with phase := .scheduling, token := 1 }.continuous = true ∧
      { continuousAt [] with phase := .scheduling, token := 1 }.token ≠
        { continuousAt [] with phase := .scheduling, token := 1 }.lastToken ∧
      { continuousAt [] with phase := .scheduling }.token = { continuousAt [] with phase := .scheduling }.lastToken ∧
      { loopAt .idle [] with phase := .scheduling }.continuous = false := by decide

theorem witness_OverlappingInvocationIsRefused :
    { loopAt .idle [] with schedule := [.invoke] }.schedule = .invoke :: [] ∧
      { loopAt .idle [] with schedule := [.invoke] }.phase ≠ .between ∧
      { loopAt .idle [] with schedule := [.invoke], phase := .between }.phase = .between := by decide

theorem witness_OutsideMovesLeaveTheRegisters :
    { loopAt .idle [] with schedule := [.arrive [1]] }.schedule = .arrive [1] :: [] ∧
      { loopAt .idle [] with schedule := [.transmit 1] }.schedule = .transmit 1 :: [] ∧
      { loopAt .idle [] with schedule := [.inputs HostInputs.clear] }.schedule = .inputs HostInputs.clear :: [] ∧
      { loopAt .idle [] with schedule := [.foreign ⟨[.write 0 ⟨1, 2, 3, 4⟩, .flush], 5, none⟩] }.schedule =
        .foreign ⟨[.write 0 ⟨1, 2, 3, 4⟩, .flush], 5, none⟩ :: [] ∧
      { loopAt .idle [] with schedule := [.clearReconnect] }.schedule = .clearReconnect :: [] := by decide

theorem witness_ParametersAreFixed :
    step { loopAt .idle [0x58] with schedule := [.run] } = stepAfterByte (exec .cmdReconnect (loopAt .idle [0x58])) := rfl

theorem witness_OutputIsNeverLostOrReordered :
    step { loopAt .idle [] with tx := [1, 2, 3], schedule := [.transmit 2] } =
      .next { loopAt .idle [] with tx := [3], line := [⟨1, 115200⟩, ⟨2, 115200⟩] } := rfl

/-- A state in the middle of a binary frame, and its step. -/
theorem witness_StepKeepsTheRegisterInvariant :
    RegisterInv { pixelAt .pxG 1 1 9 8 [7] with bin := true } ∧
      ∃ t, step { pixelAt .pxG 1 1 9 8 [7] with bin := true } = .next t :=
  ⟨by constructor <;> decide, _, rfl⟩

theorem witness_StepKeepsTheMemoryInvariant :
    MemoryInv { pixelAt .pxB 1 1 9 8 [7] with mem := twoCells } ∧
      ∃ t, step { pixelAt .pxB 1 1 9 8 [7] with mem := twoCells } = .next t :=
  ⟨by constructor <;> decide, _, rfl⟩

theorem witness_DecodeOfEncode : Instr.wellFormed (.noise 0x64) = true ∧ Instr.wellFormed (.binUnsupported 0x41) = true ∧
    Instr.wellFormed .binPing = true := by decide

/-- The frames of S1 for one pixel and for none, and of S6 twice. -/
theorem witness_TextFramesDrawTheirPixels :
    (loopAt .idle []).state = .idle ∧ (loopAt .idle []).frameClear ∧
      (loopAt .idle [0x41, 0x64, 0x61, 0, 0, 0x55, 0xAA, 0xBB, 0xCC, 0x76]).rx =
        textFrame cfg [⟨0xAA, 0xBB, 0xCC⟩] ++ [0x76] ∧
      (loopAt .idle [0x41, 0x64, 0x61, 0xFF, 0xFF, 0x55]).rx = textFrame cfg [] ++ [] ∧
      (loopAt .idle [0x41, 0x64, 0x61, 0, 0, 0x55, 1, 2, 3, 0x41, 0x64, 0x61, 0, 0, 0x55, 1, 2, 3]).rx =
        textFrame cfg [⟨1, 2, 3⟩] ++ (textFrame cfg [⟨1, 2, 3⟩] ++ []) ∧
      [(⟨1, 2, 3⟩ : Rgb)].length ≤ 65535 := by decide

/-- V43.9, V43.11, V43.13: length fields 0, 3 and 5. -/
theorem witness_BinaryFrameDrawsItsPixels :
    (loopAt .idle []).state = .idle ∧ (loopAt .idle []).frameClear ∧
      (loopAt .idle [0xC9, 0xDA, 0, 0]).rx = binHeader 0 ++ (pixelBytes [] ++ []) ∧
      (loopAt .idle [0xC9, 0xDA, 0, 3, 1, 2, 3]).rx = binHeader 3 ++ (pixelBytes [⟨1, 2, 3⟩] ++ []) ∧
      (loopAt .idle [0xC9, 0xDA, 0, 5, 1, 2, 3, 4, 5]).rx = binHeader 5 ++ (pixelBytes [⟨1, 2, 3⟩] ++ [4, 5]) ∧
      [(⟨1, 2, 3⟩ : Rgb)].length = (5 : Half).toNat / 3 ∧ ([] : List Rgb).length = (0 : Half).toNat / 3 := by decide

/-- Lead bytes of every kind as pixel data, with no, one and two channels of the first pixel held. -/
theorem witness_PixelDataCannotBeInterrupted :
    let p : Rgb := ⟨0x41, 0x49, 0x7B⟩
    let ps : List Rgb := [⟨0x4F, 0xC9, 0xB3⟩]
    let s0 := pixelAt .pxR 2 0 0 0 [0x41, 0x49, 0x7B, 0x4F, 0xC9, 0xB3, 0x76]
    let s1 := pixelAt .pxG 2 3 0x41 0 [0x49, 0x7B, 0x4F, 0xC9, 0xB3, 0x76]
    let s2 := pixelAt .pxB 2 65535 0x41 0x49 [0x7B, 0x4F, 0xC9, 0xB3, 0x76]
    (s0.inPixel ∧ s1.inPixel ∧ s2.inPixel) ∧ p.r = s1.r ∧ p.r = s2.r ∧ p.g = s2.g ∧
      (s0.count.toNat = ps.length + 1 ∧ s1.count.toNat = ps.length + 1 ∧ s2.count.toNat = ps.length + 1) ∧
      s0.rx = (pixelBytes (p :: ps)).drop (channelsHeld s0.state) ++ [0x76] ∧
      s1.rx = (pixelBytes (p :: ps)).drop (channelsHeld s1.state) ++ [0x76] ∧
      s2.rx = (pixelBytes (p :: ps)).drop (channelsHeld s2.state) ++ [0x76] := by decide

/-- The largest sink whose length field does not wrap meets the bound; the frame of V46.1 is one. -/
theorem witness_ReadbackFrameDecodesBack :
    3 * 21845 < 65536 ∧ 3 * 2 < 65536 ∧
      (loopAt .idle [0xC9, 0xDA, 0x00, 0x06, 1, 2, 3, 0xFF, 0x14, 0x0A, 0x36, 0x0A, 0x58]).rx =
        readbackBinary 2 twoCells ++ [0x58] ∧
      (loopAt .idle []).state = .idle ∧ (loopAt .idle []).frameClear := by decide

/-- The bytes `0x49` and `0x7B` as pixel data are no hand-offs. -/
theorem witness_NoHandoff : NoHandoff (pixelAt .pxR 1 0 0 0 [0x49, 0x7B, 0x4F])
  | 0, _, _, h => by cases h; decide
  | 1, _, _, h => by cases h; decide
  | 2, _, _, h => by cases h; decide
  | n + 3, _, _, h => by
    rw [Nat.add_comm, drain_add, drain_of_rx_nil n (by decide)] at h
    cases h

theorem witness_RunsDoNotDependOnTheCut :
    (pixelAt .pxR 1 0 0 0 [0x49, 0x7B, 0x4F]).schedule = [] ∧
      proceed (pixelAt .pxR 1 0 0 0 [0x49, 0x7B, 0x4F]).inputs = true ∧
      (pixelAt .pxR 1 0 0 0 [0x49, 0x7B, 0x4F]).sampled = (pixelAt .pxR 1 0 0 0 [0x49, 0x7B, 0x4F]).inputs ∧
      NoHandoff (pixelAt .pxR 1 0 0 0 [0x49, 0x7B, 0x4F]) ∧
      ∃ t, core.run 1 (pixelAt .pxR 1 0 0 0 [0x49, 0x7B, 0x4F]) = .next t :=
  ⟨rfl, by decide, rfl, witness_NoHandoff, _, rfl⟩

theorem witness_EveryInvocationReturns :
    (loopAt .idle [0x58, 0x49, 0x76]).schedule = [] ∧ (loopAt .idle [0x58, 0x49, 0x76]).phase ≠ .between := by decide

end Sys2Proof.Tests
end

/-! # The availability guard and the host's own invocations

Proofs of the statements of 40_guard_and_invocation.md sections 1 and 3, with the rules for a scheduled move and for an
invocation the host starts itself. -/

namespace Sys2Proof.Machine

/-! ## A scheduled move -/

theorem step_of_schedule_cons {s : State} {m : Move} {ms : List Move} (h : s.schedule = m :: ms) :
    step s = moveStep m { s with schedule := ms } := by
  simp only [step, nextMove, h]

/-! ## An invocation the host starts itself (R112, R118) -/

theorem hostInvoke_of_between {s : State} (h : s.phase = .between) : hostInvoke s = .next (poll s) := by
  simp only [hostInvoke, h]

theorem hostInvoke_of_not_between {s : State} (h : s.phase ≠ .between) :
    hostInvoke s = .refused .overlappingInvocation := by
  unfold hostInvoke
  cases hp : s.phase with
  | between => exact absurd hp h
  | draining => rfl
  | scheduling => rfl

theorem step_of_invoke {s : State} {ms : List Move} (h : s.schedule = .invoke :: ms) :
    step s = hostInvoke { s with schedule := ms } := by
  rw [step_of_schedule_cons h, moveStep]

/-! ## The obligations -/

/-- Settles O36: the guard is the conjunction of R110's four clauses, each read as a proposition. -/
theorem guardHasFourClauses : Obligations.GuardHasFourClauses := by
  intro h
  unfold proceed
  simp only [Bool.and_eq_true, Bool.or_eq_true, Bool.not_eq_true', and_assoc]

/-- Settles O41: the host's move acts on the state whose schedule has advanced, and that state is in the same phase. -/
theorem overlappingInvocationIsRefused : Obligations.OverlappingInvocationIsRefused := by
  intro s ms hs
  rw [step_of_invoke hs]
  constructor
  · intro hp
    exact hostInvoke_of_not_between hp
  · intro hp
    exact hostInvoke_of_between hp

end Sys2Proof.Machine

/-! # The frame starts

Proof of the statement of 41_dispatcher.md about the two lead bytes that enter a frame decoder. -/

namespace Sys2Proof.Machine

/-! ## The byte steps of the frame starts (R130, R131) -/

theorem exec_thStart (s : State) :
    exec .thStart s = .next { s with state := .thM2, continuous := false, rx := s.rx.tail } := by
  have hb : (0x41 : Byte) ≠ contOnByte := by decide
  rw [exec_eq_next, afterExec_thStart, finishByte_of_ne _ _ hb]

theorem exec_binStart (s : State) :
    exec .binStart s = .next { s with state := .binType, continuous := false, rx := s.rx.tail } := by
  have hb : (0xC9 : Byte) ≠ contOnByte := by decide
  rw [exec_eq_next, afterExec_binStart, finishByte_of_ne _ _ hb]

/-! ## The obligation -/

/-- Settles O4: neither lead byte is `O`, so the continuous-clear of R227 applies to both. -/
theorem frameStartsEnterTheirDecoders : Obligations.FrameStartsEnterTheirDecoders := by
  refine ⟨?decodeTh, ?decodeBin, fun s => ⟨exec_thStart s, exec_binStart s⟩⟩
  case decodeTh => decide
  case decodeBin => decide

end Sys2Proof.Machine

/-! # The single-byte commands

Proofs of the statements of 45_commands.md about the version query, the reconnect flag, the readback and continuous-mode
commands, and noise. -/

namespace Sys2Proof.Machine

/-! ## A byte step that sends bytes (R55, R113) -/

theorem finishByte_txPutAll_of_ne (b : Byte) (bytes : List Byte) (s : State) (h : b ≠ contOnByte) :
    finishByte b (txPutAll bytes s) =
      { s with
        tx := s.tx ++ bytes, trace := s.trace ++ bytes.map Effect.tx, continuous := false, rx := s.rx.tail } := by
  rw [finishByte_of_ne b _ h, txPutAll]

/-! ## The byte steps of the commands (R210, R212, R222 to R225) -/

theorem exec_cmdVersion (s : State) :
    exec .cmdVersion s = .next
      { s with
        tx := s.tx ++ s.cfg.versionReply, trace := s.trace ++ s.cfg.versionReply.map Effect.tx
        continuous := false, rx := s.rx.tail } := by
  have hb : (0x76 : Byte) ≠ contOnByte := by decide
  rw [exec_eq_next, afterExec_cmdVersion, finishByte_txPutAll_of_ne _ _ _ hb]

theorem exec_cmdReconnect (s : State) :
    exec .cmdReconnect s = .next
      { s with
        forceReconnect := true, trace := s.trace ++ [.reconnect], continuous := false, rx := s.rx.tail } := by
  have hb : (0x58 : Byte) ≠ contOnByte := by decide
  rw [exec_eq_next, afterExec_cmdReconnect, finishByte_of_ne _ _ hb, setReconnect]

theorem exec_cmdReadText (s : State) :
    exec .cmdReadText s = .next
      { s with
        tx := s.tx ++ readbackText s.cfg.pixelCount s.mem s.cfg.newline
        trace := s.trace ++ (readbackText s.cfg.pixelCount s.mem s.cfg.newline).map Effect.tx
        continuous := false, rx := s.rx.tail } := by
  have hb : (0x6C : Byte) ≠ contOnByte := by decide
  rw [exec_eq_next, afterExec_cmdReadText, finishByte_txPutAll_of_ne _ _ _ hb]

theorem exec_cmdReadBin (s : State) :
    exec .cmdReadBin s = .next
      { s with
        tx := s.tx ++ readbackBinary s.cfg.pixelCount s.mem
        trace := s.trace ++ (readbackBinary s.cfg.pixelCount s.mem).map Effect.tx
        continuous := false, rx := s.rx.tail } := by
  have hb : (0x4C : Byte) ≠ contOnByte := by decide
  rw [exec_eq_next, afterExec_cmdReadBin, finishByte_txPutAll_of_ne _ _ _ hb]

theorem exec_cmdContOff (s : State) :
    exec .cmdContOff s = .next { s with continuous := false, rx := s.rx.tail } := by
  have hb : (0x6F : Byte) ≠ contOnByte := by decide
  rw [exec_eq_next, afterExec_cmdContOff, finishByte_of_ne _ _ hb, setContinuous]

/-- `O` is the byte the continuous-clear exempts, so the flag it sets survives its own byte step (R225, R227). -/
theorem exec_cmdContOn (s : State) :
    exec .cmdContOn s = .next { s with continuous := true, rx := s.rx.tail } := by
  have hexempt : (true && (0x4F : Byte) == contOnByte) = true := by decide
  rw [exec_eq_next, afterExec_cmdContOn, finishByte_eq, setContinuous, hexempt]

/-! ## Noise (R81, R226) -/

/-- A byte that no row of a table has gets the instruction for every other byte. -/
theorem lookupRow_of_not_mem {rows : List (Byte × Instr)} {b : Byte} (otherwise : Instr)
    (h : b ∉ rows.map Prod.fst) : lookupRow rows b otherwise = otherwise := by
  induction rows with
  | nil => rfl
  | cons row rows ih =>
    rw [List.map_cons, List.mem_cons, not_or] at h
    obtain ⟨hhead, htail⟩ := h
    rw [lookupRow, if_neg (Ne.symm hhead), ih htail]

theorem leadTable_bytes : leadTable.map Prod.fst = leadValues := rfl

theorem decode_idle_of_not_lead {b : Byte} (h : b ∉ leadValues) : decode .idle b = .noise b :=
  lookupRow_of_not_mem (.noise b) (leadTable_bytes ▸ h)

theorem exec_noise_of_ne (b : Byte) (s : State) (h : b ≠ contOnByte) :
    exec (.noise b) s = .next { s with continuous := false, rx := s.rx.tail } := by
  rw [exec_eq_next, afterExec_noise, finishByte_of_ne _ _ h]

/-- `O` is a lead value, so no noise byte is exempt from the continuous-clear. -/
theorem ne_contOnByte_of_not_lead {b : Byte} (h : b ∉ leadValues) : b ≠ contOnByte := by
  have hO : contOnByte ∈ leadValues := by decide
  rintro rfl
  exact h hO

/-! ## The obligations -/

/-- Settles O7: `v` is not `O`, so the continuous-clear applies after the reply. -/
theorem versionQueryReplies : Obligations.VersionQueryReplies := by
  refine ⟨?decodes, exec_cmdVersion⟩
  case decodes => decide

/-- Settles O9: `X` is not `O`, so the continuous-clear applies after the flag is set. -/
theorem reconnectSetsItsFlag : Obligations.ReconnectSetsItsFlag := by
  refine ⟨?decodes, exec_cmdReconnect⟩
  case decodes => decide

/-- Settles O11: both commands send their frame as one `TxPutAll` of the present cells. -/
theorem readbackCommandsSendTheCells : Obligations.ReadbackCommandsSendTheCells := by
  refine ⟨?decodesText, ?decodesBin, fun s => ⟨exec_cmdReadText s, exec_cmdReadBin s⟩⟩
  case decodesText => decide
  case decodesBin => decide

/-- Settles O12: of the two bytes only `O` is exempt from the continuous-clear. -/
theorem continuousModeCommands : Obligations.ContinuousModeCommands := by
  refine ⟨?decodesOff, ?decodesOn, fun s => ⟨exec_cmdContOff s, exec_cmdContOn s⟩⟩
  case decodesOff => decide
  case decodesOn => decide

/-- Settles O13: a byte outside the table falls through every row of it, and it is not `O`. -/
theorem noiseIsDiscarded : Obligations.NoiseIsDiscarded := by
  refine ⟨?length, ?distinct, fun b hb => ⟨decode_idle_of_not_lead hb, fun s => ?step⟩⟩
  case length => decide
  case distinct => decide
  case step => exact exec_noise_of_ne b s (ne_contOnByte_of_not_lead hb)

end Sys2Proof.Machine

/-! # Decoding and encoding

Proofs of the statements of 30_encoding.md, and the facts about the decoder that the proofs about byte steps use. -/

namespace Sys2Proof.Machine

/-! ## Tables -/

/-- What a table answers is one of its rows, or the instruction for every other byte. -/
theorem lookupRow_cases (rows : List (Byte × Instr)) (b : Byte) (otherwise : Instr) :
    (b, lookupRow rows b otherwise) ∈ rows ∨
      (b ∉ rows.map Prod.fst ∧ lookupRow rows b otherwise = otherwise) := by
  by_cases h : b ∈ rows.map Prod.fst
  · left
    induction rows with
    | nil => simp at h
    | cons row rows ih =>
      rw [lookupRow]
      split
      · rename_i hk
        subst hk
        exact List.mem_cons_self
      · rename_i hk
        rw [List.map_cons, List.mem_cons] at h
        exact List.mem_cons_of_mem _ (ih (h.resolve_left (Ne.symm hk)))
  · exact .inr ⟨h, lookupRow_of_not_mem otherwise h⟩

theorem leadTable_rows : ∀ row ∈ leadTable, row.2.wellFormed = true ∧ encode row.2 = (.idle, row.1) := by decide

theorem subTable_rows : ∀ row ∈ subTable, row.2.wellFormed = true ∧ encode row.2 = (.binType, row.1) := by decide

theorem subTable_bytes : subTable.map Prod.fst = subCommands := rfl

theorem decode_binType_of_not_sub {b : Byte} (h : b ∉ subCommands) : decode .binType b = .binUnsupported b :=
  lookupRow_of_not_mem (.binUnsupported b) (subTable_bytes ▸ h)

/-! ## Decoded instructions -/

theorem decode_idle_spec (b : Byte) :
    (decode .idle b).wellFormed = true ∧ encode (decode .idle b) = (.idle, b) := by
  rcases lookupRow_cases leadTable b (.noise b) with hrow | ⟨hb, hnoise⟩
  · exact leadTable_rows _ hrow
  · have hdecode : decode .idle b = .noise b := hnoise
    rw [leadTable_bytes] at hb
    simp [hdecode, Instr.wellFormed, encode, Instr.position, Instr.byte, hb]

theorem decode_binType_spec (b : Byte) :
    (decode .binType b).wellFormed = true ∧ encode (decode .binType b) = (.binType, b) := by
  rcases lookupRow_cases subTable b (.binUnsupported b) with hrow | ⟨hb, hother⟩
  · exact subTable_rows _ hrow
  · have hdecode : decode .binType b = .binUnsupported b := hother
    rw [subTable_bytes] at hb
    simp [hdecode, Instr.wellFormed, encode, Instr.position, Instr.byte, hb]

theorem decode_spec (p : DecoderState) (b : Byte) :
    (decode p b).wellFormed = true ∧ encode (decode p b) = (p, b) := by
  cases p
  case idle => exact decode_idle_spec b
  case binType => exact decode_binType_spec b
  all_goals exact ⟨rfl, rfl⟩

theorem decode_wellFormed (p : DecoderState) (b : Byte) : (decode p b).wellFormed = true := (decode_spec p b).1

@[simp] theorem decode_position (p : DecoderState) (b : Byte) : (decode p b).position = p :=
  congrArg Prod.fst (decode_spec p b).2

@[simp] theorem decode_byte (p : DecoderState) (b : Byte) : (decode p b).byte = b :=
  congrArg Prod.snd (decode_spec p b).2

theorem not_lead_of_wellFormed {b : Byte} (h : (Instr.noise b).wellFormed = true) : b ∉ leadValues := by
  simpa [Instr.wellFormed] using h

theorem not_sub_of_wellFormed {b : Byte} (h : (Instr.binUnsupported b).wellFormed = true) : b ∉ subCommands := by
  simpa [Instr.wellFormed] using h

theorem decode_encode (i : Instr) (h : i.wellFormed = true) : decode (encode i).1 (encode i).2 = i := by
  cases i
  case noise b => exact decode_idle_of_not_lead (not_lead_of_wellFormed h)
  case binUnsupported b => exact decode_binType_of_not_sub (not_sub_of_wellFormed h)
  all_goals rfl

theorem decode_eq_iff {p : DecoderState} {b : Byte} {i : Instr} (h : i.wellFormed = true) :
    decode p b = i ↔ p = i.position ∧ b = i.byte := by
  constructor
  · rintro rfl
    simp
  · rintro ⟨rfl, rfl⟩
    exact decode_encode i h

/-! ## The obligations -/

/-- Settles O49: the two rows of lowest priority are reached because a well-formed one carries no other row's byte. -/
theorem decodeOfEncode : Obligations.DecodeOfEncode := decode_encode

/-- Settles O50: each row of a table is encoded as its own key, and a byte outside the table as itself. -/
theorem encodeOfDecode : Obligations.EncodeOfDecode := decode_spec

/-- Settles O51: each word is the encoding of its instruction. -/
theorem someWordsDecode : Obligations.SomeWordsDecode := by
  refine ⟨?_, ?_, ?_, ?_, ?_, ?_, ?_, ?_⟩ <;> decide

end Sys2Proof.Machine

/-! # What one byte step does

The rules about a byte step that the later proofs cite: the registers as a function of the registers alone, the bytes it
takes, and the course of the invocation. -/

namespace Sys2Proof.Machine

theorem eq_afterExec_of_exec {i : Instr} {s t : State} (h : exec i s = .next t) : t = afterExec i s := by
  rw [exec_eq_next] at h
  cases h
  rfl

/-! ## The operations with choices of their own, field by field -/

section

variable (target : Rate) (s : State)

@[simp] theorem baudRequest_phase : (baudRequest target s).phase = s.phase := by
  simp [baudRequest, apply_ite State.phase]
@[simp] theorem baudRequest_rx : (baudRequest target s).rx = s.rx := by
  simp [baudRequest, apply_ite State.rx]
@[simp] theorem baudRequest_mem : (baudRequest target s).mem = s.mem := by
  simp [baudRequest, apply_ite State.mem]
@[simp] theorem baudRequest_shown : (baudRequest target s).shown = s.shown := by
  simp [baudRequest, apply_ite State.shown]
@[simp] theorem baudRequest_token : (baudRequest target s).token = s.token := by
  simp [baudRequest, apply_ite State.token]
@[simp] theorem baudRequest_claim : (baudRequest target s).claim = s.claim := by
  simp [baudRequest, apply_ite State.claim]
@[simp] theorem baudRequest_errors : (baudRequest target s).errors = s.errors := by
  simp [baudRequest, apply_ite State.errors]

theorem baudRequest_registers :
    (baudRequest target s).registers =
      if target = s.baud ∨ target.toNat < s.cfg.baudMin.val then s.registers
      else { s.registers with baud := target } := by
  unfold baudRequest
  split <;> rfl

end

section

variable (d : BootDraw) (s : State)

/-- What a boot request leaves as it is (R211). -/
theorem bootRequest_frame :
    bootRequest d s =
      { s with
        restartPending := (bootRequest d s).restartPending, draws := (bootRequest d s).draws
        trace := (bootRequest d s).trace, errors := (bootRequest d s).errors } := by
  rcases bootRequest_cases d s with ⟨-, h⟩ | ⟨-, h⟩ <;> rw [h]

@[simp] theorem bootRequest_registers : (bootRequest d s).registers = s.registers := by rw [bootRequest_frame]; rfl
@[simp] theorem bootRequest_phase : (bootRequest d s).phase = s.phase := by rw [bootRequest_frame]
@[simp] theorem bootRequest_rx : (bootRequest d s).rx = s.rx := by rw [bootRequest_frame]
@[simp] theorem bootRequest_tx : (bootRequest d s).tx = s.tx := by rw [bootRequest_frame]
@[simp] theorem bootRequest_line : (bootRequest d s).line = s.line := by rw [bootRequest_frame]
@[simp] theorem bootRequest_linkRate : (bootRequest d s).linkRate = s.linkRate := by rw [bootRequest_frame]
@[simp] theorem bootRequest_mem : (bootRequest d s).mem = s.mem := by rw [bootRequest_frame]
@[simp] theorem bootRequest_shown : (bootRequest d s).shown = s.shown := by rw [bootRequest_frame]
@[simp] theorem bootRequest_token : (bootRequest d s).token = s.token := by rw [bootRequest_frame]
@[simp] theorem bootRequest_claim : (bootRequest d s).claim = s.claim := by rw [bootRequest_frame]

end

/-- The reply of a structured request is the bytes and the error label of its outcome (R133, R274, R275). -/
theorem requestReply_eq (d : RequestDraw) (s : State) :
    requestReply d s =
      { s with
        tx := s.tx ++ replyBytes s.cfg (transmitAvailable s.sampled) d
        trace := s.trace ++ (replyBytes s.cfg (transmitAvailable s.sampled) d).map Effect.tx
        errors := s.errors ++ replyErrors d.outcome } := by
  unfold requestReply replyBytes replyErrors
  cases d.outcome
  case okVerbose => cases transmitAvailable s.sampled <;> simp [txPutAll]
  all_goals simp [txPutAll, raiseError]

/-- A structured-request hand-off in full (R133, D13). -/
theorem requestHandoff_eq (d : RequestDraw) (s : State) :
    requestHandoff d s =
      { s with
        rx := s.rx.drop (takenBytes d.taken s.rx.length)
        mem := (sinkActs s.cfg.pixelCount d.shared.acts s.mem s.shown).1
        shown := (sinkActs s.cfg.pixelCount d.shared.acts s.mem s.shown).2
        token := s.cfg.tokenType.value d.shared.token, claim := d.shared.claim
        tx := s.tx ++ replyBytes s.cfg (transmitAvailable s.sampled) d
        trace := s.trace ++ [.request] ++ (replyBytes s.cfg (transmitAvailable s.sampled) d).map Effect.tx
        errors := s.errors ++ replyErrors d.outcome
        draws := s.draws + 1 } := by
  unfold requestHandoff
  rw [requestReply_eq]
  rfl

/-! ## The registers after a byte, as a function of the registers -/

/-- The registers after a baud request (R213). -/
def Registers.withBaud (c : Config) (target : Rate) (r : Registers) : Registers :=
  if target = r.baud ∨ target.toNat < c.baudMin.val then r else { r with baud := target }

/-- The registers after an instruction's handler, before the continuous-clear. -/
def Registers.handled (c : Config) (r : Registers) : Instr → Registers
  | .thStart => { r with state := .thM2 }
  | .binStart => { r with state := .binType }
  | .cmdReconnect => { r with forceReconnect := true }
  | .cmdBaud0 => r.withBaud c (baudRate 0)
  | .cmdBaud1 => r.withBaud c (baudRate 1)
  | .cmdBaud2 => r.withBaud c (baudRate 2)
  | .cmdBaud3 => r.withBaud c (baudRate 3)
  | .cmdBaud4 => r.withBaud c (baudRate 4)
  | .cmdBaud5 => r.withBaud c (baudRate 5)
  | .cmdBaud6 => r.withBaud c (baudRate 6)
  | .cmdBaud7 => r.withBaud c (baudRate 7)
  | .cmdContOff => { r with continuous := false }
  | .cmdContOn => { r with continuous := true }
  | .thM2 b => if b = c.thM2 then { r with state := .thM3 } else r.cleared
  | .thM3 b => if b = c.thM3 then { r with state := .thCntHi } else r.cleared
  | .thCntHi b => { r with count := highHalf b, chk := b, state := .thCntLo }
  | .thCntLo b => { r with count := countWithLow r.count b, chk := checksumWithLow r.chk b, state := .thChk }
  | .thChk b => if b = r.chk ∧ r.count ≠ 0 then { r with idx := 0, state := .pxR } else r.cleared
  | .binData => { r with state := .binLenHi }
  | .binPing | .binUnsupported _ => r.cleared
  | .binLenHi b => { r with count := highHalf b, state := .binLenLo }
  | .binLenLo b =>
    if pixelsOfLength (lengthWithLow r.count b) = 0 then r.cleared
    else { r with count := pixelsOfLength (lengthWithLow r.count b), idx := 0, bin := true, state := .pxR }
  | .pxR b => { r with r := b, state := .pxG }
  | .pxG b => { r with g := b, state := .pxB }
  | .pxB _ =>
    if r.count - 1 = 0 then r.cleared else { r with idx := r.idx + 1, count := r.count - 1, state := .pxR }
  | .pairHandoff | .reqHandoff | .cmdVersion | .cmdBoot | .cmdReadText | .cmdReadBin | .noise _ => r

/-- The registers after a byte step: the handler's, with the continuous-clear, which the pairing hand-off is exempt from
(R227, D12). -/
def Registers.after (c : Config) (r : Registers) (i : Instr) : Registers :=
  { r.handled c i with
    continuous := if i = .pairHandoff then r.continuous else (r.handled c i).continuous && i.byte == contOnByte }

/-! ## The cells and the effects after a byte, as functions of the registers, the cells and the sampled inputs -/

/-- The cells after an instruction that hands nothing off: a pixel's blue byte stores it (R192). -/
def cellsAfter (c : Config) (r : Registers) (m : Memory) : Instr → Memory
  | .pxB b => sinkStore c.pixelCount m r.idx.toNat (wirePixel c r.bin { r := r.r, g := r.g, b := b })
  | _ => m

/-- The effects of a commit, from the parameters and the sampled inputs (R194). -/
def commitTrace (c : Config) (h : HostInputs) : List Effect := [.claim c.claimTag h.claimTimeout, .flush]

/-- The effects of a baud request (R213). -/
def baudTrace (c : Config) (r : Registers) (target : Rate) : List Effect :=
  if target = r.baud ∨ target.toNat < c.baudMin.val then [] else [.drain, .reopen target]

/-- The effects of an instruction that hands nothing off, diagnostic notes aside. -/
def effectsOf (c : Config) (h : HostInputs) (r : Registers) (m : Memory) : Instr → List Effect
  | .cmdVersion => c.versionReply.map Effect.tx
  | .cmdBoot => if c.bootCap then [.boot] else []
  | .cmdReconnect => [.reconnect]
  | .cmdBaud0 => baudTrace c r (baudRate 0)
  | .cmdBaud1 => baudTrace c r (baudRate 1)
  | .cmdBaud2 => baudTrace c r (baudRate 2)
  | .cmdBaud3 => baudTrace c r (baudRate 3)
  | .cmdBaud4 => baudTrace c r (baudRate 4)
  | .cmdBaud5 => baudTrace c r (baudRate 5)
  | .cmdBaud6 => baudTrace c r (baudRate 6)
  | .cmdBaud7 => baudTrace c r (baudRate 7)
  | .cmdReadText => (readbackText c.pixelCount m c.newline).map Effect.tx
  | .cmdReadBin => (readbackBinary c.pixelCount m).map Effect.tx
  | .binPing => [.tx binAck]
  | .thChk b => if b = r.chk ∧ r.count = 0 then commitTrace c h else []
  | .binLenLo b => if pixelsOfLength (lengthWithLow r.count b) = 0 then commitTrace c h else []
  | .pxB b =>
    .write r.idx (wirePixel c r.bin { r := r.r, g := r.g, b := b }) ::
      (if r.count - 1 = 0 then commitTrace c h else [])
  | _ => []

@[simp] theorem withoutDiag_append (es fx : List Effect) : withoutDiag (es ++ fx) = withoutDiag es ++ withoutDiag fx :=
  List.filter_append es fx

@[simp] theorem withoutDiag_tx (bytes : List Byte) : withoutDiag (bytes.map Effect.tx) = bytes.map Effect.tx := by
  simp [withoutDiag]

/-- What the handler of an instruction that hands nothing off makes of a state, before the end of the byte step. -/
structure Handled (i : Instr) (s u : State) : Prop where
  registers : u.registers = s.registers.handled s.cfg i
  rx : u.rx = s.rx
  phase : u.phase = s.phase
  cells : u.mem = cellsAfter s.cfg s.registers s.mem i
  trace : withoutDiag u.trace = withoutDiag s.trace ++ effectsOf s.cfg s.sampled s.registers s.mem i

theorem withoutDiag_append_of_no_note {es fx : List Effect} (h : withoutDiag fx = fx) :
    withoutDiag (es ++ fx) = withoutDiag es ++ fx := by
  rw [withoutDiag_append, h]

/-- A handler that makes no effect and leaves the cells. -/
theorem handled_of_silent {i : Instr} {s u : State} (hregs : u.registers = s.registers.handled s.cfg i)
    (hrx : u.rx = s.rx) (hphase : u.phase = s.phase) (hmem : u.mem = s.mem) (htrace : u.trace = s.trace)
    (hcells : cellsAfter s.cfg s.registers s.mem i = s.mem)
    (hsilent : effectsOf s.cfg s.sampled s.registers s.mem i = []) : Handled i s u :=
  ⟨hregs, hrx, hphase, hmem.trans hcells.symm, by rw [htrace, hsilent, List.append_nil]⟩

theorem handled_cmdBoot (s : State) :
    Handled .cmdBoot s (if s.cfg.bootCap then bootRequest (Config.boot s.draws) s else s) := by
  have hnote : withoutDiag (bootRequest (Config.boot s.draws) s).trace = withoutDiag s.trace ++ [.boot] := by
    rcases bootRequest_cases (Config.boot s.draws) s with ⟨-, h⟩ | ⟨-, h⟩ <;> simp [h, withoutDiag]
  refine iteInduction (fun h => ?cap) (fun h => ?noCap)
  case cap => constructor <;> simp [Registers.handled, cellsAfter, effectsOf, h, hnote]
  case noCap => constructor <;> simp [Registers.handled, cellsAfter, effectsOf, h]

theorem baudRequest_trace (target : Rate) (s : State) :
    (baudRequest target s).trace = s.trace ++ baudTrace s.cfg s.registers target := by
  have hbaud : s.registers.baud = s.baud := rfl
  unfold baudRequest baudTrace
  rw [hbaud]
  split
  · exact (List.append_nil _).symm
  · rw [linkReopen_trace, txDrain_trace, List.append_assoc]
    rfl

theorem baudRequest_trace_withoutDiag (target : Rate) (s : State) :
    withoutDiag (baudRequest target s).trace = withoutDiag s.trace ++ baudTrace s.cfg s.registers target := by
  rw [baudRequest_trace]
  apply withoutDiag_append_of_no_note
  unfold baudTrace
  split <;> rfl

theorem withoutDiag_commit (s : State) :
    withoutDiag (commit s).trace = withoutDiag s.trace ++ commitTrace s.cfg s.sampled := by
  simp [withoutDiag, commitTrace]

theorem handled_thChk (b : Byte) (s : State) :
    Handled (.thChk b) s
      (if b = s.chk then if s.count = 0 then commit { s with idx := 0 } else { s with idx := 0, state := .pxR }
      else errorEntry .checksum s) := by
  refine iteInduction (fun hb => iteInduction (fun hc => ?commit) (fun hc => ?pixels)) (fun hb => ?error)
  case commit =>
    have hregs : ¬ (b = s.chk ∧ s.count ≠ 0) := fun h => h.2 hc
    exact ⟨(if_neg hregs).symm, rfl, rfl, rfl,
      (withoutDiag_commit _).trans (congrArg _ (if_pos (And.intro hb hc)).symm)⟩
  case pixels =>
    exact handled_of_silent (if_pos (And.intro hb hc)).symm rfl rfl rfl rfl rfl (if_neg fun h => hc h.2)
  case error =>
    have hregs : ¬ (b = s.chk ∧ s.count ≠ 0) := fun h => hb h.1
    exact handled_of_silent (if_neg hregs).symm rfl rfl rfl rfl rfl (if_neg fun h => hb h.1)

theorem handled_binLenLo (b : Byte) (s : State) :
    Handled (.binLenLo b) s
      (if pixelsOfLength (lengthWithLow s.count b) = 0 then commit (beginBinaryData b s)
      else { beginBinaryData b s with state := .pxR }) := by
  refine iteInduction (fun h => ?commit) (fun h => ?pixels)
  case commit =>
    exact ⟨(if_pos h).symm, rfl, rfl, rfl, (withoutDiag_commit _).trans (congrArg _ (if_pos h).symm)⟩
  case pixels => exact handled_of_silent (if_neg h).symm rfl rfl rfl rfl rfl (if_neg h)

theorem withoutDiag_writePixel (b : Byte) (s : State) :
    withoutDiag (writePixel b s).trace =
      withoutDiag s.trace ++ [.write s.idx (wirePixel s.cfg s.bin { r := s.r, g := s.g, b := b })] := by
  simp [withoutDiag, wirePixel]

theorem handled_pxB (b : Byte) (s : State) :
    Handled (.pxB b) s
      (if s.count - 1 = 0 then commit (writePixel b s) else { writePixel b s with state := .pxR }) := by
  have heffects : effectsOf s.cfg s.sampled s.registers s.mem (.pxB b) =
      [.write s.idx (wirePixel s.cfg s.bin { r := s.r, g := s.g, b := b })] ++
        (if s.count - 1 = 0 then commitTrace s.cfg s.sampled else []) := rfl
  refine iteInduction (fun h => ?commit) (fun h => ?more)
  case commit =>
    refine ⟨(if_pos h).symm, rfl, rfl, rfl, ?_⟩
    rw [withoutDiag_commit, withoutDiag_writePixel, heffects, if_pos h, List.append_assoc]
    rfl
  case more =>
    refine ⟨(if_neg h).symm, rfl, rfl, rfl, ?_⟩
    rw [heffects, if_neg h, List.append_nil]
    exact withoutDiag_writePixel b s

theorem handled_thM2 (b : Byte) (s : State) :
    Handled (.thM2 b) s (if b = s.cfg.thM2 then { s with state := .thM3 } else errorEntry .framing s) :=
  iteInduction (fun h => handled_of_silent (if_pos h).symm rfl rfl rfl rfl rfl rfl)
    (fun h => handled_of_silent (if_neg h).symm rfl rfl rfl rfl rfl rfl)

theorem handled_thM3 (b : Byte) (s : State) :
    Handled (.thM3 b) s (if b = s.cfg.thM3 then { s with state := .thCntHi } else errorEntry .framing s) :=
  iteInduction (fun h => handled_of_silent (if_pos h).symm rfl rfl rfl rfl rfl rfl)
    (fun h => handled_of_silent (if_neg h).symm rfl rfl rfl rfl rfl rfl)

/-- A baud command is handled as the request for its rate. -/
theorem handled_baud {i : Instr} {s : State} (target : Rate)
    (hregs : s.registers.handled s.cfg i = s.registers.withBaud s.cfg target)
    (hcells : cellsAfter s.cfg s.registers s.mem i = s.mem)
    (heffects : effectsOf s.cfg s.sampled s.registers s.mem i = baudTrace s.cfg s.registers target) :
    Handled i s (baudRequest target s) where
  registers := (baudRequest_registers target s).trans hregs.symm
  rx := baudRequest_rx target s
  phase := baudRequest_phase target s
  cells := (baudRequest_mem target s).trans hcells.symm
  trace := by rw [heffects, baudRequest_trace_withoutDiag]

theorem handled_send {i : Instr} {s : State} (bytes : List Byte)
    (hregs : s.registers.handled s.cfg i = s.registers) (hcells : cellsAfter s.cfg s.registers s.mem i = s.mem)
    (heffects : effectsOf s.cfg s.sampled s.registers s.mem i = bytes.map Effect.tx) :
    Handled i s (txPutAll bytes s) where
  registers := hregs.symm
  rx := rfl
  phase := rfl
  cells := hcells.symm
  trace := by rw [heffects, txPutAll_trace, withoutDiag_append, withoutDiag_tx]

/-- An instruction that hands nothing off is its handler and the end of the byte step (R113). -/
theorem afterExec_handled {i : Instr} (hpair : i ≠ .pairHandoff) (hreq : i ≠ .reqHandoff) (s : State) :
    ∃ u, afterExec i s = finishByte i.byte u ∧ Handled i s u := by
  cases i
  case pairHandoff => exact absurd rfl hpair
  case reqHandoff => exact absurd rfl hreq
  case thStart => exact ⟨_, afterExec_thStart s, handled_of_silent rfl rfl rfl rfl rfl rfl rfl⟩
  case binStart => exact ⟨_, afterExec_binStart s, handled_of_silent rfl rfl rfl rfl rfl rfl rfl⟩
  case cmdVersion => exact ⟨_, afterExec_cmdVersion s, handled_send _ rfl rfl rfl⟩
  case cmdBoot => exact ⟨_, afterExec_cmdBoot s, handled_cmdBoot s⟩
  case cmdReconnect =>
    exact ⟨_, afterExec_cmdReconnect s, rfl, rfl, rfl, rfl, withoutDiag_append_of_no_note (fx := _) rfl⟩
  case cmdBaud0 => exact ⟨_, afterExec_cmdBaud0 s, handled_baud (baudRate 0) rfl rfl rfl⟩
  case cmdBaud1 => exact ⟨_, afterExec_cmdBaud1 s, handled_baud (baudRate 1) rfl rfl rfl⟩
  case cmdBaud2 => exact ⟨_, afterExec_cmdBaud2 s, handled_baud (baudRate 2) rfl rfl rfl⟩
  case cmdBaud3 => exact ⟨_, afterExec_cmdBaud3 s, handled_baud (baudRate 3) rfl rfl rfl⟩
  case cmdBaud4 => exact ⟨_, afterExec_cmdBaud4 s, handled_baud (baudRate 4) rfl rfl rfl⟩
  case cmdBaud5 => exact ⟨_, afterExec_cmdBaud5 s, handled_baud (baudRate 5) rfl rfl rfl⟩
  case cmdBaud6 => exact ⟨_, afterExec_cmdBaud6 s, handled_baud (baudRate 6) rfl rfl rfl⟩
  case cmdBaud7 => exact ⟨_, afterExec_cmdBaud7 s, handled_baud (baudRate 7) rfl rfl rfl⟩
  case cmdReadText => exact ⟨_, afterExec_cmdReadText s, handled_send _ rfl rfl rfl⟩
  case cmdReadBin => exact ⟨_, afterExec_cmdReadBin s, handled_send _ rfl rfl rfl⟩
  case cmdContOff => exact ⟨_, afterExec_cmdContOff s, handled_of_silent rfl rfl rfl rfl rfl rfl rfl⟩
  case cmdContOn => exact ⟨_, afterExec_cmdContOn s, handled_of_silent rfl rfl rfl rfl rfl rfl rfl⟩
  case noise b => exact ⟨_, afterExec_noise b s, handled_of_silent rfl rfl rfl rfl rfl rfl rfl⟩
  case thM2 b => exact ⟨_, afterExec_thM2 b s, handled_thM2 b s⟩
  case thM3 b => exact ⟨_, afterExec_thM3 b s, handled_thM3 b s⟩
  case thCntHi b => exact ⟨_, afterExec_thCntHi b s, handled_of_silent rfl rfl rfl rfl rfl rfl rfl⟩
  case thCntLo b => exact ⟨_, afterExec_thCntLo b s, handled_of_silent rfl rfl rfl rfl rfl rfl rfl⟩
  case thChk b => exact ⟨_, afterExec_thChk b s, handled_thChk b s⟩
  case binData => exact ⟨_, afterExec_binData s, handled_of_silent rfl rfl rfl rfl rfl rfl rfl⟩
  case binPing => exact ⟨_, afterExec_binPing s, rfl, rfl, rfl, rfl, withoutDiag_append_of_no_note (fx := _) rfl⟩
  case binUnsupported b =>
    exact ⟨_, afterExec_binUnsupported b s, handled_of_silent rfl rfl rfl rfl rfl rfl rfl⟩
  case binLenHi b => exact ⟨_, afterExec_binLenHi b s, handled_of_silent rfl rfl rfl rfl rfl rfl rfl⟩
  case binLenLo b => exact ⟨_, afterExec_binLenLo b s, handled_binLenLo b s⟩
  case pxR b => exact ⟨_, afterExec_pxR b s, handled_of_silent rfl rfl rfl rfl rfl rfl rfl⟩
  case pxG b => exact ⟨_, afterExec_pxG b s, handled_of_silent rfl rfl rfl rfl rfl rfl rfl⟩
  case pxB b => exact ⟨_, afterExec_pxB b s, handled_pxB b s⟩

/-! ## What follows for the byte step -/

theorem afterExec_registers (i : Instr) (s : State) : (afterExec i s).registers = s.registers.after s.cfg i := by
  by_cases hpair : i = .pairHandoff
  · subst hpair; rfl
  by_cases hreq : i = .reqHandoff
  · subst hreq; rw [afterExec_reqHandoff, requestHandoff_eq]; rfl
  obtain ⟨u, hu, hhandled⟩ := afterExec_handled hpair hreq s
  have hfinish : (finishByte i.byte u).registers =
      { u.registers with continuous := u.registers.continuous && i.byte == contOnByte } := rfl
  rw [hu, hfinish, hhandled.registers, Registers.after, if_neg hpair]

theorem afterExec_rx {i : Instr} (hpair : i ≠ .pairHandoff) (hreq : i ≠ .reqHandoff) (s : State) :
    (afterExec i s).rx = s.rx.tail := by
  obtain ⟨u, hu, hhandled⟩ := afterExec_handled hpair hreq s
  rw [hu, finishByte_rx, hhandled.rx]

theorem afterExec_phase {i : Instr} (hpair : i ≠ .pairHandoff) (s : State) : (afterExec i s).phase = s.phase := by
  by_cases hreq : i = .reqHandoff
  · subst hreq; rw [afterExec_reqHandoff, requestHandoff_eq]; rfl
  obtain ⟨u, hu, hhandled⟩ := afterExec_handled hpair hreq s
  rw [hu, finishByte_phase, hhandled.phase]

theorem afterExec_mem {i : Instr} (hpair : i ≠ .pairHandoff) (hreq : i ≠ .reqHandoff) (s : State) :
    (afterExec i s).mem = cellsAfter s.cfg s.registers s.mem i := by
  obtain ⟨u, hu, hhandled⟩ := afterExec_handled hpair hreq s
  rw [hu, finishByte_mem, hhandled.cells]

theorem afterExec_trace {i : Instr} (hpair : i ≠ .pairHandoff) (hreq : i ≠ .reqHandoff) (s : State) :
    withoutDiag (afterExec i s).trace =
      withoutDiag s.trace ++ effectsOf s.cfg s.sampled s.registers s.mem i := by
  obtain ⟨u, hu, hhandled⟩ := afterExec_handled hpair hreq s
  rw [hu, finishByte_trace, hhandled.trace]

/-- A hand-off collaborator takes at least one byte, from the head (R53, D12, D13). -/
theorem afterExec_handoff_rx {i : Instr} (h : i = .pairHandoff ∨ i = .reqHandoff) (s : State) :
    ∃ raw, (afterExec i s).rx = s.rx.drop (takenBytes raw s.rx.length) := by
  rcases h with rfl | rfl
  · exact ⟨(Config.pairing s.draws).taken, by rw [afterExec_pairHandoff, pairingHandoff_eq]⟩
  · exact ⟨(Config.request s.draws).taken, by rw [afterExec_reqHandoff, requestHandoff_eq]; rfl⟩

end Sys2Proof.Machine

/-! # The wire fields of the pixel protocols

The two-byte fields of 30_encoding.md sections 3 and 4 as numbers, and the proofs of the statements about them. -/

namespace Sys2Proof.Machine

/-! ## Halves and their bytes (R7, R95) -/

@[simp] theorem hiByte_toNat (v : Half) : (hiByte v).toNat = v.toNat / 256 := by
  have := v.isLt
  simp only [hiByte, BitVec.extractLsb'_toNat, Nat.shiftRight_eq_div_pow]
  omega

@[simp] theorem loByte_toNat (v : Half) : (loByte v).toNat = v.toNat % 256 := by
  simp [loByte, BitVec.extractLsb'_toNat]

@[simp] theorem highHalf_toNat (b : Byte) : (highHalf b).toNat = 256 * b.toNat := by
  have := b.isLt
  simp only [highHalf, BitVec.toNat_shiftLeft, BitVec.toNat_setWidth, Nat.shiftLeft_eq]
  omega

@[simp] theorem loByte_highHalf (b : Byte) : loByte (highHalf b) = 0 := by
  apply BitVec.eq_of_toNat_eq
  simp

@[simp] theorem hiByte_highHalf (b : Byte) : hiByte (highHalf b) = b := by
  apply BitVec.eq_of_toNat_eq
  simp

/-- A half whose low byte is free is that of its high byte. -/
theorem eq_highHalf_of_loByte {v : Half} (h : loByte v = 0) : v = highHalf (hiByte v) := by
  have hlow : v.toNat % 256 = 0 := by rw [← loByte_toNat, h]; rfl
  apply BitVec.eq_of_toNat_eq
  rw [highHalf_toNat, hiByte_toNat]
  omega

/-- The high half and a low byte share no bit, so the length is their sum (R87). -/
theorem lengthWithLow_toNat (hi lo : Byte) : (lengthWithLow (highHalf hi) lo).toNat = 256 * hi.toNat + lo.toNat := by
  have hor := Nat.two_pow_add_eq_or_of_lt (i := 8) lo.isLt hi.toNat
  have hlo : (lo.zeroExtend 16).toNat = lo.toNat := by
    have := lo.isLt
    rw [BitVec.toNat_setWidth]
    omega
  rw [lengthWithLow, BitVec.toNat_or, highHalf_toNat, hlo]
  exact hor.symm

theorem countWithLow_toNat (hi lo : Byte) :
    (countWithLow (highHalf hi) lo).toNat = (256 * hi.toNat + lo.toNat + 1) % 65536 := by
  have hone : (1 : Half).toNat = 1 := rfl
  have := lo.isLt
  simp only [countWithLow, BitVec.toNat_add, highHalf_toNat, BitVec.toNat_setWidth, hone]
  omega

@[simp] theorem pixelsOfLength_toNat (len : Half) : (pixelsOfLength len).toNat = len.toNat / 3 := by
  simp [pixelsOfLength]

theorem pixelsOfLength_eq_zero_iff (len : Half) : pixelsOfLength len = 0 ↔ len.toNat < 3 := by
  have hzero : (0 : Half).toNat = 0 := rfl
  rw [← BitVec.toNat_inj, pixelsOfLength_toNat, hzero]
  omega

/-- The two bytes of a length field give it back (R86). -/
theorem lengthWithLow_bytes (v : Half) : lengthWithLow (highHalf (hiByte v)) (loByte v) = v := by
  apply BitVec.eq_of_toNat_eq
  rw [lengthWithLow_toNat, hiByte_toNat, loByte_toNat]
  omega

/-- The two bytes of a count field give one more than it (R84). -/
theorem countWithLow_bytes (v : Half) : countWithLow (highHalf (hiByte v)) (loByte v) = v + 1 := by
  have hone : (1 : Half).toNat = 1 := rfl
  apply BitVec.eq_of_toNat_eq
  rw [countWithLow_toNat, hiByte_toNat, loByte_toNat, BitVec.toNat_add, hone]
  omega

/-! ## The checksum byte and the length bytes (R154, R174) -/

theorem afterExec_thChk_errors (b : Byte) (s : State) :
    (afterExec (.thChk b) s).errors = if b = s.chk then s.errors else s.errors ++ [.checksum] := by
  rw [afterExec_thChk, finishByte_errors]
  split
  · split <;> rfl
  · rfl

theorem thChk_accepts_iff (b : Byte) (s : State) : (afterExec (.thChk b) s).errors = s.errors ↔ b = s.chk := by
  rw [afterExec_thChk_errors]
  constructor
  · intro h
    by_contra hb
    simp [hb] at h
  · intro h
    rw [if_pos h]

/-- A length of at least one pixel enters the pixel data and makes no effect (R174). -/
theorem afterExec_binLenLo_of_pixels (b : Byte) {s : State} (h : pixelsOfLength (lengthWithLow s.count b) ≠ 0) :
    afterExec (.binLenLo b) s =
      { s with
        count := pixelsOfLength (lengthWithLow s.count b), idx := 0, bin := true, state := .pxR
        continuous := s.continuous && b == contOnByte, rx := s.rx.tail } := by
  rw [afterExec_binLenLo, if_neg h]
  rfl

/-- A shorter length commits a frame of no pixels (R174, D6). -/
theorem afterExec_binLenLo_of_short (b : Byte) {s : State} (h : pixelsOfLength (lengthWithLow s.count b) = 0) :
    afterExec (.binLenLo b) s = finishByte b (commit (beginBinaryData b s)) := by
  rw [afterExec_binLenLo, if_pos h]

/-! ## The obligations -/

/-- Settles O17: the high half is 256 times its byte, and TH.CHK labels an error exactly when the byte is not `chk`. -/
theorem textCountAndChecksumFromTheWire : Obligations.TextCountAndChecksumFromTheWire := by
  intro s hi lo b t
  have hcount : t.count = countWithLow (highHalf hi) lo := rfl
  have hchk : t.chk = hi ^^^ lo ^^^ 0x55 := rfl
  refine ⟨?_, hchk, ?_⟩
  · rw [hcount, countWithLow_toNat]
  · rw [thChk_accepts_iff, hchk]

/-- Settles O21: the length is `256 * hi + lo`, so its quotient by three is zero exactly for a length below three. -/
theorem binaryLengthFromTheWire : Obligations.BinaryLengthFromTheWire := by
  intro s hi lo t
  have hlen : (lengthWithLow (afterExec (.binLenHi hi) s).count lo).toNat = 256 * hi.toNat + lo.toNat :=
    lengthWithLow_toNat hi lo
  have hzero := pixelsOfLength_eq_zero_iff (lengthWithLow (afterExec (.binLenHi hi) s).count lo)
  rw [hlen] at hzero
  constructor
  · intro hL
    have ht : t = _ := afterExec_binLenLo_of_pixels lo (fun h => absurd (hzero.mp h) (by omega))
    rw [ht]
    refine ⟨rfl, rfl, rfl, ?_, rfl⟩
    rw [pixelsOfLength_toNat, hlen]
  · intro hL
    have ht : t = _ := afterExec_binLenLo_of_short lo (hzero.mpr hL)
    rw [ht]
    refine ⟨rfl, ⟨rfl, rfl, rfl, rfl, rfl, rfl⟩, rfl, ?_⟩
    exact List.append_assoc s.trace _ _

end Sys2Proof.Machine

/-! # Rules about every byte

Proofs of the statements that quantify over all bytes or all instructions: what a byte step takes from RX, where the
decoder stands after it, and which instructions write which registers and outputs. -/

namespace Sys2Proof.Machine

/-! ## Registers that a baud request leaves as they are (R213) -/

section

variable (c : Config) (r : Registers) (target : Rate)

theorem withBaud_eq : r.withBaud c target = { r with baud := (r.withBaud c target).baud } := by
  unfold Registers.withBaud
  split <;> rfl

@[simp] theorem withBaud_state : (r.withBaud c target).state = r.state := by rw [withBaud_eq]
@[simp] theorem withBaud_count : (r.withBaud c target).count = r.count := by rw [withBaud_eq]
@[simp] theorem withBaud_chk : (r.withBaud c target).chk = r.chk := by rw [withBaud_eq]
@[simp] theorem withBaud_idx : (r.withBaud c target).idx = r.idx := by rw [withBaud_eq]
@[simp] theorem withBaud_r : (r.withBaud c target).r = r.r := by rw [withBaud_eq]
@[simp] theorem withBaud_g : (r.withBaud c target).g = r.g := by rw [withBaud_eq]
@[simp] theorem withBaud_bin : (r.withBaud c target).bin = r.bin := by rw [withBaud_eq]
@[simp] theorem withBaud_continuous : (r.withBaud c target).continuous = r.continuous := by rw [withBaud_eq]
@[simp] theorem withBaud_lastToken : (r.withBaud c target).lastToken = r.lastToken := by rw [withBaud_eq]
@[simp] theorem withBaud_forceReconnect : (r.withBaud c target).forceReconnect = r.forceReconnect := by
  rw [withBaud_eq]

theorem withBaud_baud : (r.withBaud c target).baud = r.baud ∨ (r.withBaud c target).baud = target := by
  unfold Registers.withBaud
  split
  · exact .inl rfl
  · exact .inr rfl

end

@[simp] theorem cleared_baud (r : Registers) : r.cleared.baud = r.baud := rfl
@[simp] theorem cleared_continuous (r : Registers) : r.cleared.continuous = r.continuous := rfl
@[simp] theorem cleared_lastToken (r : Registers) : r.cleared.lastToken = r.lastToken := rfl
@[simp] theorem cleared_state (r : Registers) : r.cleared.state = .idle := rfl
@[simp] theorem cleared_forceReconnect (r : Registers) : r.cleared.forceReconnect = r.forceReconnect := rfl

/-! ## The two hand-off bytes (R132, R133) -/

theorem decode_eq_pairHandoff_iff {p : DecoderState} {b : Byte} :
    decode p b = .pairHandoff ↔ p = .idle ∧ b = 0x49 := decode_eq_iff rfl

theorem decode_eq_reqHandoff_iff {p : DecoderState} {b : Byte} :
    decode p b = .reqHandoff ↔ p = .idle ∧ b = 0x7B := decode_eq_iff rfl

/-- Settles O26: outside the hand-offs the byte step pops once, and a hand-off takes between one byte and all of RX. -/
theorem everyByteStepConsumes : Obligations.EveryByteStepConsumes := by
  intro s t b rest hrx hexec
  obtain rfl := eq_afterExec_of_exec hexec
  constructor
  · rintro ⟨hidle, hb⟩
    have hi : decode s.state b = .pairHandoff ∨ decode s.state b = .reqHandoff :=
      hb.imp (fun h => decode_eq_pairHandoff_iff.mpr ⟨hidle, h⟩)
        (fun h => decode_eq_reqHandoff_iff.mpr ⟨hidle, h⟩)
    obtain ⟨raw, hdrop⟩ := afterExec_handoff_rx hi s
    exact ⟨takenBytes raw s.rx.length, takenBytes_pos _ _, takenBytes_le _ _ (by simp [hrx]), hdrop⟩
  · intro hother
    have hpair : decode s.state b ≠ .pairHandoff := fun h =>
      hother ((decode_eq_pairHandoff_iff.mp h).imp id .inl)
    have hreq : decode s.state b ≠ .reqHandoff := fun h =>
      hother ((decode_eq_reqHandoff_iff.mp h).imp id .inr)
    rw [afterExec_rx hpair hreq, hrx, List.tail_cons]

/-! ## Continuous mode (R224, R225, R227) -/

theorem handled_continuous (c : Config) (r : Registers) (i : Instr) :
    (r.handled c i).continuous =
      if i = .cmdContOn then true else if i = .cmdContOff then false else r.continuous := by
  cases i <;> simp [Registers.handled, apply_ite Registers.continuous]

theorem afterExec_continuous (i : Instr) (s : State) :
    (afterExec i s).continuous =
      if i = .pairHandoff then s.continuous
      else (s.registers.handled s.cfg i).continuous && i.byte == contOnByte :=
  congrArg Registers.continuous (afterExec_registers i s)

/-- Settles O27: the continuous-clear compares the byte with `O`, and only two commands of the idle position write the
flag themselves. -/
theorem everyOtherByteEndsContinuousMode : Obligations.EveryOtherByteEndsContinuousMode := by
  intro s t b hexec
  obtain rfl := eq_afterExec_of_exec hexec
  rw [afterExec_continuous, handled_continuous, decode_byte]
  refine ⟨fun hb hpair => ?other, fun hb hidle => ?on, fun hb hpos => ?kept, fun hidle hb => ?pairing⟩
  case other =>
    have hclear : (b == contOnByte) = false := by simpa [contOnByte] using hb
    rw [if_neg (fun h => hpair (decode_eq_pairHandoff_iff.mp h)), hclear, Bool.and_false]
  case on =>
    rw [hidle, hb]
    rfl
  case kept =>
    have hne : ∀ i : Instr, i.position = .idle → decode s.state b ≠ i := by
      rintro i hi rfl
      exact hpos (by simpa using hi)
    rw [if_neg (hne _ rfl), if_neg (hne _ rfl), if_neg (hne _ rfl), hb]
    exact Bool.and_true _
  case pairing => rw [if_pos (decode_eq_pairHandoff_iff.mpr ⟨hidle, hb⟩)]

/-! ## The position after a byte (R38) -/

theorem ne_lead_of_wellFormed {b v : Byte} (h : (Instr.noise b).wellFormed = true) (hv : v ∈ leadValues) :
    b ≠ v := by
  rintro rfl
  exact not_lead_of_wellFormed h hv

theorem sub_one_eq_zero_iff (v : Half) : v - 1 = 0 ↔ v = 1 := by
  constructor
  · intro h
    bv_omega
  · rintro rfl
    rfl

/-- The position after an instruction is that of the transition index at its byte. -/
theorem handled_state {i : Instr} (hwf : i.wellFormed = true) {s : State} (hpos : s.state = i.position) :
    (s.registers.handled s.cfg i).state = transition s i.byte := by
  have hstate : s.registers.state = i.position := hpos
  unfold transition
  rw [hpos]
  cases i
  case noise b =>
    have hA : b ≠ 0x41 := ne_lead_of_wellFormed hwf (by decide)
    have hC9 : b ≠ 0xC9 := ne_lead_of_wellFormed hwf (by decide)
    exact hstate.trans ((if_neg hA).trans (if_neg hC9)).symm
  case binUnsupported b =>
    have hDA : b ≠ 0xDA := by
      rintro rfl
      exact not_sub_of_wellFormed hwf (by decide)
    exact (if_neg hDA).symm
  case binLenLo b =>
    have hshort := pixelsOfLength_eq_zero_iff (lengthWithLow s.count b)
    by_cases h : pixelsOfLength (lengthWithLow s.count b) = 0
    · have hlen := Nat.not_le_of_lt (hshort.mp h)
      exact (congrArg Registers.state (if_pos h)).trans (if_neg hlen).symm
    · have hlen := Nat.le_of_not_lt (mt hshort.mpr h)
      exact (congrArg Registers.state (if_neg h)).trans (if_pos hlen).symm
  case pxB b =>
    have hlast := sub_one_eq_zero_iff s.count
    by_cases h : s.count - 1 = 0
    · exact (congrArg Registers.state (if_pos h)).trans (if_pos (hlast.mp h)).symm
    · exact (congrArg Registers.state (if_neg h)).trans (if_neg (mt hlast.mpr h)).symm
  case thM2 b => exact apply_ite Registers.state _ _ _
  case thM3 b => exact apply_ite Registers.state _ _ _
  case thChk b => exact apply_ite Registers.state _ _ _
  all_goals simp [Instr.position, Instr.byte, Registers.handled, hstate]

theorem afterExec_state (b : Byte) (s : State) : (afterExec (decode s.state b) s).state = transition s b := by
  have h : (afterExec (decode s.state b) s).state = (s.registers.handled s.cfg (decode s.state b)).state :=
    congrArg Registers.state (afterExec_registers _ s)
  rw [h, handled_state (decode_wellFormed _ _) (decode_position _ _).symm, decode_byte]

/-- Settles O28: row by row, the handler's position is the index's. -/
theorem positionsFollowTheIndex : Obligations.PositionsFollowTheIndex := by
  intro s t b hexec
  rw [eq_afterExec_of_exec hexec, afterExec_state]

/-! ## The idle position (R26, R136) -/

/-- No handler of the idle position writes FrameContext. -/
theorem handled_frame_of_idle (c : Config) (r : Registers) {i : Instr} (hidle : i.position = .idle) :
    (r.handled c i).count = r.count ∧ (r.handled c i).chk = r.chk ∧ (r.handled c i).idx = r.idx ∧
      (r.handled c i).r = r.r ∧ (r.handled c i).g = r.g ∧ (r.handled c i).bin = r.bin := by
  cases i <;> simp [Registers.handled, Instr.position] at hidle ⊢

/-- Settles O29: the transition index from the idle position, and that a lead byte's handler writes no FrameContext. -/
theorem onlyTwoLeadBytesLeaveIdle : Obligations.OnlyTwoLeadBytesLeaveIdle := by
  intro s t b hidle hexec
  obtain rfl := eq_afterExec_of_exec hexec
  constructor
  · rw [afterExec_state, transition, hidle]
    dsimp only
    split
    · simp_all
    · split <;> simp_all
  · have hpos : (decode s.state b).position = .idle := by rw [decode_position, hidle]
    have hafter := afterExec_registers (decode s.state b) s
    obtain ⟨hcount, hchk, hidx, hr, hg, hbin⟩ := handled_frame_of_idle s.cfg s.registers hpos
    exact ⟨(congrArg Registers.count hafter).trans hcount, (congrArg Registers.chk hafter).trans hchk,
      (congrArg Registers.idx hafter).trans hidx, (congrArg Registers.r hafter).trans hr,
      (congrArg Registers.g hafter).trans hg, (congrArg Registers.bin hafter).trans hbin⟩

/-! ## The writers of the control registers (R27 to R31) -/

theorem handled_lastToken (c : Config) (r : Registers) (i : Instr) : (r.handled c i).lastToken = r.lastToken := by
  cases i <;> simp [Registers.handled, apply_ite Registers.lastToken]

theorem handled_forceReconnect (c : Config) (r : Registers) (i : Instr) :
    (r.handled c i).forceReconnect = (r.forceReconnect || decide (i = .cmdReconnect)) := by
  cases i <;> simp [Registers.handled, apply_ite Registers.forceReconnect]

/-- `baud` is as before, or the rate of the baud command just handled. -/
theorem handled_baud_register (c : Config) (r : Registers) (i : Instr) :
    (r.handled c i).baud = r.baud ∨ ∃ row ∈ baudCommands, row.1 = i ∧ (r.handled c i).baud = row.2.2 := by
  have command : ∀ row ∈ baudCommands, r.handled c row.1 = r.withBaud c row.2.2 := by
    simp only [baudCommands, List.cons_append, List.nil_append, List.forall_mem_cons]
    exact ⟨rfl, rfl, rfl, rfl, rfl, rfl, rfl, rfl, by simp⟩
  by_cases hi : ∃ row ∈ baudCommands, row.1 = i
  · obtain ⟨row, hrow, rfl⟩ := hi
    rw [command row hrow]
    exact (withBaud_baud c r row.2.2).imp_right fun h => ⟨row, hrow, rfl, h⟩
  · left
    have other : ∀ row ∈ baudCommands, row.1 ≠ i := fun row hrow h => hi ⟨row, hrow, h⟩
    simp only [baudCommands, List.cons_append, List.nil_append, List.forall_mem_cons] at other
    cases i <;> simp [Registers.handled, apply_ite Registers.baud] at other ⊢

/-- Settles O30: each register of LinkConfig and the flag, read off the registers after the handler. -/
theorem controlRegistersHaveTheirWriters : Obligations.ControlRegistersHaveTheirWriters := by
  intro i s t hexec
  obtain rfl := eq_afterExec_of_exec hexec
  have hafter := afterExec_registers i s
  refine ⟨?lastToken, ?baud, ?reconnect, ?continuous⟩
  case lastToken => exact (congrArg Registers.lastToken hafter).trans (handled_lastToken s.cfg s.registers i)
  case baud =>
    have hbaud : (afterExec i s).baud = (s.registers.handled s.cfg i).baud := congrArg Registers.baud hafter
    rw [hbaud]
    exact handled_baud_register s.cfg s.registers i
  case reconnect =>
    exact (congrArg Registers.forceReconnect hafter).trans (handled_forceReconnect s.cfg s.registers i)
  case continuous =>
    rw [afterExec_continuous, handled_continuous]
    by_cases hon : i = .cmdContOn
    · exact fun _ => .inr hon
    · intro h
      left
      by_cases hpair : i = .pairHandoff
      · simpa [hpair] using h
      · by_cases hoff : i = .cmdContOff
        · simp [hoff] at h
        · simp only [if_neg hpair, if_neg hon, if_neg hoff, Bool.and_eq_true] at h
          exact h.1

end Sys2Proof.Machine

/-! # The sink, the claim and the link's output

Proofs of the statements of 20_memory.md sections 3 to 5: which instructions reach the sink, the claim and the output,
and that what the sink and the claim hold does not influence the decoder. -/

namespace Sys2Proof.Machine

/-! ## Operations that leave the sink and the claim -/

theorem sameSink_refl (s : State) : SameSink s s := ⟨rfl, rfl, rfl, rfl⟩

theorem sameSink_finishByte {s u : State} (b : Byte) (h : SameSink s u) : SameSink s (finishByte b u) :=
  ⟨h.mem, h.shown, h.token, h.claim⟩

theorem sameSink_ite {s u v : State} {p : Prop} [Decidable p] (hu : SameSink s u) (hv : SameSink s v) :
    SameSink s (if p then u else v) := iteInduction (fun _ => hu) (fun _ => hv)

theorem sameSink_baudRequest (target : Rate) (s : State) : SameSink s (baudRequest target s) :=
  ⟨baudRequest_mem _ _, baudRequest_shown _ _, baudRequest_token _ _, baudRequest_claim _ _⟩

theorem sameSink_bootRequest (d : BootDraw) (s : State) : SameSink s (bootRequest d s) :=
  ⟨bootRequest_mem _ _, bootRequest_shown _ _, bootRequest_token _ _, bootRequest_claim _ _⟩

/-- But for the pixel write, the two header bytes that can commit and the hand-offs, no instruction reaches the sink or
the claim. -/
theorem afterExec_sameSink {i : Instr} (hframe : ∀ b, i ≠ .pxB b ∧ i ≠ .thChk b ∧ i ≠ .binLenLo b)
    (hpair : i ≠ .pairHandoff) (hreq : i ≠ .reqHandoff) (s : State) : SameSink s (afterExec i s) := by
  have keeps (j : Instr) (b : Byte) {u : State} (h : afterExec j s = finishByte b u) (hu : SameSink s u) :
      SameSink s (afterExec j s) := h ▸ sameSink_finishByte b hu
  cases i
  case pairHandoff => exact absurd rfl hpair
  case reqHandoff => exact absurd rfl hreq
  case pxB b => exact absurd rfl (hframe b).1
  case thChk b => exact absurd rfl (hframe b).2.1
  case binLenLo b => exact absurd rfl (hframe b).2.2
  case cmdBoot =>
    exact keeps _ _ (afterExec_cmdBoot s) (sameSink_ite (sameSink_bootRequest _ s) (sameSink_refl s))
  case thM2 b => exact keeps _ _ (afterExec_thM2 b s) (sameSink_ite ⟨rfl, rfl, rfl, rfl⟩ ⟨rfl, rfl, rfl, rfl⟩)
  case thM3 b => exact keeps _ _ (afterExec_thM3 b s) (sameSink_ite ⟨rfl, rfl, rfl, rfl⟩ ⟨rfl, rfl, rfl, rfl⟩)
  case cmdBaud0 => exact keeps _ _ (afterExec_cmdBaud0 s) (sameSink_baudRequest _ s)
  case cmdBaud1 => exact keeps _ _ (afterExec_cmdBaud1 s) (sameSink_baudRequest _ s)
  case cmdBaud2 => exact keeps _ _ (afterExec_cmdBaud2 s) (sameSink_baudRequest _ s)
  case cmdBaud3 => exact keeps _ _ (afterExec_cmdBaud3 s) (sameSink_baudRequest _ s)
  case cmdBaud4 => exact keeps _ _ (afterExec_cmdBaud4 s) (sameSink_baudRequest _ s)
  case cmdBaud5 => exact keeps _ _ (afterExec_cmdBaud5 s) (sameSink_baudRequest _ s)
  case cmdBaud6 => exact keeps _ _ (afterExec_cmdBaud6 s) (sameSink_baudRequest _ s)
  case cmdBaud7 => exact keeps _ _ (afterExec_cmdBaud7 s) (sameSink_baudRequest _ s)
  all_goals exact ⟨rfl, rfl, rfl, rfl⟩

/-! ## Operations that leave the link's output -/

/-- TX, the line and the link rate are as before. -/
def SameOutput (s t : State) : Prop := t.tx = s.tx ∧ t.line = s.line ∧ t.linkRate = s.linkRate

theorem sameOutput_finishByte {s u : State} (b : Byte) (h : SameOutput s u) : SameOutput s (finishByte b u) := h

theorem sameOutput_ite {s u v : State} {p : Prop} [Decidable p] (hu : SameOutput s u) (hv : SameOutput s v) :
    SameOutput s (if p then u else v) := iteInduction (fun _ => hu) (fun _ => hv)

theorem sameOutput_bootRequest (d : BootDraw) (s : State) : SameOutput s (bootRequest d s) :=
  ⟨bootRequest_tx _ _, bootRequest_line _ _, bootRequest_linkRate _ _⟩

/-- The instructions that append to TX (20_memory.md section 3). -/
def senders : List Instr := [.binPing, .cmdVersion, .cmdReadText, .cmdReadBin, .pairHandoff, .reqHandoff]

/-- But for the senders and the baud commands, no instruction reaches the link's output. -/
theorem afterExec_sameOutput {i : Instr} (hsend : i ∉ senders) (hbaud : ∀ c ∈ baudCommands, i ≠ c.1) (s : State) :
    SameOutput s (afterExec i s) := by
  have keeps (j : Instr) (b : Byte) {u : State} (h : afterExec j s = finishByte b u) (hu : SameOutput s u) :
      SameOutput s (afterExec j s) := h ▸ sameOutput_finishByte b hu
  simp only [senders, List.mem_cons, not_or] at hsend
  simp only [baudCommands, List.cons_append, List.nil_append, List.forall_mem_cons] at hbaud
  cases i
  case cmdBoot =>
    exact keeps _ _ (afterExec_cmdBoot s) (sameOutput_ite (sameOutput_bootRequest _ s) ⟨rfl, rfl, rfl⟩)
  case thM2 b => exact keeps _ _ (afterExec_thM2 b s) (sameOutput_ite ⟨rfl, rfl, rfl⟩ ⟨rfl, rfl, rfl⟩)
  case thM3 b => exact keeps _ _ (afterExec_thM3 b s) (sameOutput_ite ⟨rfl, rfl, rfl⟩ ⟨rfl, rfl, rfl⟩)
  case thChk b =>
    exact keeps _ _ (afterExec_thChk b s)
      (sameOutput_ite (sameOutput_ite ⟨rfl, rfl, rfl⟩ ⟨rfl, rfl, rfl⟩) ⟨rfl, rfl, rfl⟩)
  case binLenLo b => exact keeps _ _ (afterExec_binLenLo b s) (sameOutput_ite ⟨rfl, rfl, rfl⟩ ⟨rfl, rfl, rfl⟩)
  case pxB b => exact keeps _ _ (afterExec_pxB b s) (sameOutput_ite (by simp [SameOutput]) (by simp [SameOutput]))
  case binPing | cmdVersion | cmdReadText | cmdReadBin | pairHandoff | reqHandoff => simp at hsend
  case cmdBaud0 | cmdBaud1 | cmdBaud2 | cmdBaud3 | cmdBaud4 | cmdBaud5 | cmdBaud6 | cmdBaud7 => simp at hbaud
  all_goals exact ⟨rfl, rfl, rfl⟩

theorem cellsAfter_of_not_pxB {i : Instr} (h : ∀ b, i ≠ .pxB b) (c : Config) (r : Registers) (m : Memory) :
    cellsAfter c r m i = m := by
  cases i
  case pxB b => exact absurd rfl (h b)
  all_goals rfl

/-- Settles O31: cells by the memory a byte step leaves, the rest by the two frame rules. -/
theorem outputsHaveTheirInstructions : Obligations.OutputsHaveTheirInstructions := by
  intro i s t hexec
  obtain rfl := eq_afterExec_of_exec hexec
  refine ⟨fun hpx hpair hreq => ?_, fun hframe hpair hreq => afterExec_sameSink hframe hpair hreq s,
    fun hsend hbaud => afterExec_sameOutput hsend hbaud s⟩
  rw [afterExec_mem hpair hreq, cellsAfter_of_not_pxB hpx]

/-! ## The decoder and the pixels -/

/-- A state with other cells, another shown image, another token and another claim. -/
def withSink (m m' : Memory) (k : Token) (c : Option Claim) (s : State) : State :=
  { s with mem := m, shown := m', token := k, claim := c }

@[simp] theorem withSink_errors (m m' : Memory) (k : Token) (c : Option Claim) (s : State) :
    (withSink m m' k c s).errors = s.errors := rfl

theorem bootRequest_errors (d : BootDraw) (s : State) :
    (bootRequest d s).errors =
      if bootToggle d = .switchScheduled then s.errors else s.errors ++ [.privilegedOperationFailure] := by
  rcases bootRequest_cases d s with ⟨hd, h⟩ | ⟨hd, h⟩
  · rw [h, if_pos hd]
  · rw [h, if_neg hd]

theorem errors_ite_congr {p : Prop} [Decidable p] {u v u' v' : State} (hu : u'.errors = u.errors)
    (hv : v'.errors = v.errors) : (if p then u' else v').errors = (if p then u else v).errors := by
  split
  · exact hu
  · exact hv

/-- The error labels of a byte step do not depend on the sink or the claim. -/
theorem afterExec_errors_withSink (i : Instr) (s : State) (m m' : Memory) (k : Token) (c : Option Claim) :
    (afterExec i (withSink m m' k c s)).errors = (afterExec i s).errors := by
  cases i
  case reqHandoff =>
    rw [afterExec_reqHandoff, afterExec_reqHandoff, requestHandoff_eq, requestHandoff_eq]
    rfl
  case cmdBoot =>
    simp only [afterExec_cmdBoot, finishByte_errors]
    exact errors_ite_congr ((bootRequest_errors _ _).trans (bootRequest_errors _ s).symm) rfl
  case cmdBaud0 | cmdBaud1 | cmdBaud2 | cmdBaud3 | cmdBaud4 | cmdBaud5 | cmdBaud6 | cmdBaud7 => simp
  case cmdReadText | cmdReadBin => simp
  case thM2 b =>
    rw [afterExec_thM2, afterExec_thM2, finishByte_errors, finishByte_errors]
    exact errors_ite_congr rfl rfl
  case thM3 b =>
    rw [afterExec_thM3, afterExec_thM3, finishByte_errors, finishByte_errors]
    exact errors_ite_congr rfl rfl
  case thChk b =>
    rw [afterExec_thChk, afterExec_thChk, finishByte_errors, finishByte_errors]
    exact errors_ite_congr (errors_ite_congr (by simp) (by simp)) (by simp)
  case binLenLo b =>
    rw [afterExec_binLenLo, afterExec_binLenLo, finishByte_errors, finishByte_errors]
    exact errors_ite_congr (by simp) (by simp)
  case pxB b =>
    rw [afterExec_pxB, afterExec_pxB, finishByte_errors, finishByte_errors]
    exact errors_ite_congr (by simp) (by simp)
  all_goals rfl

/-- The bytes a byte step leaves do not depend on the sink or the claim: both runs draw the same choices. -/
theorem afterExec_rx_withSink (i : Instr) (s : State) (m m' : Memory) (k : Token) (c : Option Claim) :
    (afterExec i (withSink m m' k c s)).rx = (afterExec i s).rx := by
  by_cases hpair : i = .pairHandoff
  · subst hpair; rfl
  by_cases hreq : i = .reqHandoff
  · subst hreq
    rw [afterExec_reqHandoff, afterExec_reqHandoff, requestHandoff_eq, requestHandoff_eq]
    rfl
  rw [afterExec_rx hpair hreq, afterExec_rx hpair hreq]
  rfl

theorem afterExec_phase_withSink (i : Instr) (s : State) (m m' : Memory) (k : Token) (c : Option Claim) :
    (afterExec i (withSink m m' k c s)).phase = (afterExec i s).phase := by
  by_cases hpair : i = .pairHandoff
  · subst hpair; rfl
  rw [afterExec_phase hpair, afterExec_phase hpair]
  rfl

/-- Settles O32: the registers after a byte are a function of the registers before it, and the rest of RX, the phase and
the error labels never read the sink. -/
theorem pixelsDoNotSteerTheDecoder : Obligations.PixelsDoNotSteerTheDecoder := by
  intro i s t t' m m' k c ht ht'
  obtain rfl := eq_afterExec_of_exec ht
  obtain rfl := eq_afterExec_of_exec (s := withSink m m' k c s) ht'
  refine ⟨?_, afterExec_rx_withSink i s m m' k c, afterExec_phase_withSink i s m m' k c,
    afterExec_errors_withSink i s m m' k c⟩
  rw [afterExec_registers, afterExec_registers]
  rfl

end Sys2Proof.Machine

/-! # What every step keeps

A property that every kind of move keeps is kept by every step: the proofs of the whole-machine rules, of the memory
invariant and of the register invariant. -/

namespace Sys2Proof.Machine

/-! ## The moves, one by one -/

/-- A property that each of the moves a step can make keeps. -/
structure KeptByMoves (P : State → Prop) : Prop where
  schedule : ∀ s ms, P s → P { s with schedule := ms }
  poll : ∀ s, P s → P (poll s)
  endLoop : ∀ s, P s → P (endLoop s)
  byte : ∀ s b, P s → P (afterExec (decode s.state b) s)
  budget : ∀ s, P s → P (afterByte s)
  finish : ∀ s, P s → P (finishInvocation s)
  arrive : ∀ s bytes, P s → P { s with rx := s.rx ++ bytes }
  transmit : ∀ s n, P s → P (sendBytes n s)
  inputs : ∀ s i, P s → P { s with inputs := i }
  foreign : ∀ s c, P s → P (applyShared c s)
  clearReconnect : ∀ s, P s → P { s with forceReconnect := false }
  reset : ∀ s, P s → P (resetBlock s)

theorem blockStep_keeps {P : State → Prop} (hP : KeptByMoves P) {s t : State} (h : blockStep s = .next t) (hs : P s) :
    P t := by
  rcases blockStep_cases h with ⟨-, rfl⟩ | ⟨-, -, rfl⟩ | ⟨b, rest, -, -, rfl⟩ | ⟨-, rfl⟩
  · exact hP.poll s hs
  · exact hP.endLoop s hs
  · exact hP.budget _ (hP.byte s b hs)
  · exact hP.finish s hs

theorem restart_keeps {P : State → Prop} (hP : KeptByMoves P) {s : State} (hs : P s) : P (restart s) :=
  iteInduction (fun _ => hP.reset s hs) (fun _ => hs)

/-- What every move keeps, every step keeps. -/
theorem step_keeps {P : State → Prop} (hP : KeptByMoves P) {s t : State} (h : step s = .next t) (hs : P s) : P t := by
  rcases step_cases h with ⟨-, hblock⟩ | ⟨m, ms, -, hmove⟩
  · exact blockStep_keeps hP hblock hs
  have hadvanced := hP.schedule s ms hs
  rcases hmove with ⟨-, hblock⟩ | ⟨-, -, rfl⟩ | ⟨bytes, -, rfl⟩ | ⟨n, -, rfl⟩ | ⟨i, -, rfl⟩ |
    ⟨c, -, rfl⟩ | ⟨-, rfl⟩ | ⟨-, rfl⟩ | ⟨-, rfl⟩
  · exact blockStep_keeps hP hblock hadvanced
  · exact hP.poll _ hadvanced
  · exact hP.arrive _ bytes hadvanced
  · exact hP.transmit _ n hadvanced
  · exact hP.inputs _ i hadvanced
  · exact hP.foreign _ c hadvanced
  · exact hP.clearReconnect _ hadvanced
  · exact restart_keeps hP hadvanced
  · exact hP.reset _ hadvanced

/-- What a poll may change: the sampled inputs, the clock and the phase (R112, R115). -/
theorem poll_frame (s : State) :
    poll s =
      { s with
        sampled := (poll s).sampled, now := (poll s).now, draws := (poll s).draws, start := (poll s).start
        phase := (poll s).phase } := by
  rcases poll_cases s with ⟨-, h⟩ | ⟨-, h⟩ <;> rw [h]

/-- What the budget test may change: the clock, the trace and the phase (R116). -/
theorem afterByte_frame (s : State) :
    afterByte s =
      { s with
        now := (afterByte s).now, draws := (afterByte s).draws, trace := (afterByte s).trace
        phase := (afterByte s).phase } := by
  rcases afterByte_cases s with ⟨-, -, h⟩ | ⟨-, -, h⟩ | ⟨-, h⟩ <;> rw [h]

/-- What the end of an invocation may change: TX, the trace, `last_token` and the phase (R112, R255). -/
theorem finishInvocation_frame (s : State) :
    finishInvocation s =
      { s with
        tx := (finishInvocation s).tx, trace := (finishInvocation s).trace
        lastToken := (finishInvocation s).lastToken, phase := (finishInvocation s).phase } := by
  unfold finishInvocation
  rcases schedulerStep_cases s with ⟨-, -, h⟩ | ⟨-, h⟩ <;> rw [h]

/-! ## Totality (R270) -/

theorem blockStep_total (s : State) : ∃ t, blockStep s = .next t := by
  unfold blockStep
  cases s.phase
  case between => exact ⟨_, rfl⟩
  case scheduling => exact ⟨_, rfl⟩
  case draining =>
    cases s.rx
    case nil => exact ⟨_, rfl⟩
    case cons b rest => exact ⟨_, congrArg stepAfterByte (exec_eq_next (decode s.state b) s)⟩

/-- Settles O42: every meaning answers a next state, and so does every move but the host's own invocation. -/
theorem onlyAnOverlapStopsTheMachine : Obligations.OnlyAnOverlapStopsTheMachine := by
  intro s
  cases hs : s.schedule with
  | nil =>
    have hstep : step s = blockStep s := by simp only [step, nextMove, hs]
    rw [hstep]
    exact .inl (blockStep_total s)
  | cons m ms =>
    rw [step_of_schedule_cons hs]
    cases m
    case run => exact .inl (blockStep_total _)
    case invoke =>
      by_cases hp : s.phase = .between
      · exact .inl ⟨_, hostInvoke_of_between (s := { s with schedule := ms }) hp⟩
      · exact .inr ⟨hostInvoke_of_not_between (s := { s with schedule := ms }) hp, hp, ms, rfl⟩
    all_goals exact .inl ⟨_, rfl⟩

/-! ## The parameters (R6, R287) -/

theorem cfg_keptByMoves (c : Config) : KeptByMoves fun s => s.cfg = c where
  schedule _ _ h := h
  poll s h := by rw [poll_frame]; exact h
  endLoop _ h := h
  byte s b h := (afterExec_cfg _ s).trans h
  budget s h := by rw [afterByte_frame]; exact h
  finish s h := by rw [finishInvocation_frame]; exact h
  arrive _ _ h := h
  transmit _ _ h := h
  inputs _ _ h := h
  foreign _ _ h := h
  clearReconnect _ h := h
  reset _ h := h

/-- Settles O44: no move writes the parameters. -/
theorem parametersAreFixed : Obligations.ParametersAreFixed :=
  fun s _ h => step_keeps (cfg_keptByMoves s.cfg) h rfl

/-! ## The output (R55, D32) -/

/-- What has left the link and what is pending has grown at the end only, and nothing that has left is taken back. -/
def OutputGrows (s t : State) : Prop :=
  (∃ new, t.line.map LineByte.byte ++ t.tx = s.line.map LineByte.byte ++ s.tx ++ new) ∧ s.line <+: t.line

theorem outputGrows_trans {s t u : State} (h1 : OutputGrows s t) (h2 : OutputGrows t u) : OutputGrows s u := by
  obtain ⟨⟨new1, hnew1⟩, hline1⟩ := h1
  obtain ⟨⟨new2, hnew2⟩, hline2⟩ := h2
  exact ⟨⟨new1 ++ new2, by rw [hnew2, hnew1, List.append_assoc]⟩, hline1.trans hline2⟩

/-- An append to TX. -/
theorem outputGrows_of_append {s t : State} (bytes : List Byte) (htx : t.tx = s.tx ++ bytes) (hline : t.line = s.line) :
    OutputGrows s t :=
  ⟨⟨bytes, by rw [htx, hline, List.append_assoc]⟩, by rw [hline]⟩

theorem outputGrows_of_same {s t : State} (htx : t.tx = s.tx) (hline : t.line = s.line) : OutputGrows s t :=
  outputGrows_of_append [] (by rw [htx, List.append_nil]) hline

/-- The driver moves the head of TX to the line. -/
theorem outputGrows_sendBytes (n : Nat) (s : State) : OutputGrows s (sendBytes n s) := by
  refine ⟨⟨[], ?_⟩, List.prefix_append _ _⟩
  have hbytes : ((s.tx.take n).map fun b => LineByte.mk b s.linkRate).map LineByte.byte = s.tx.take n := by
    rw [List.map_map]
    exact List.map_id _
  rw [sendBytes_line, sendBytes_tx, List.map_append, hbytes, List.append_assoc, List.take_append_drop, List.append_nil]

theorem outputGrows_baudRequest (target : Rate) (s : State) : OutputGrows s (baudRequest target s) := by
  unfold baudRequest
  split
  · exact outputGrows_of_same rfl rfl
  · exact outputGrows_sendBytes s.tx.length s

theorem afterExec_baudCommand (s : State) :
    ∀ row ∈ baudCommands, afterExec row.1 s = finishByte row.2.1 (baudRequest row.2.2 s) := by
  simp only [baudCommands, List.cons_append, List.nil_append, List.forall_mem_cons]
  exact ⟨afterExec_cmdBaud0 s, afterExec_cmdBaud1 s, afterExec_cmdBaud2 s, afterExec_cmdBaud3 s, afterExec_cmdBaud4 s,
    afterExec_cmdBaud5 s, afterExec_cmdBaud6 s, afterExec_cmdBaud7 s, by simp⟩

theorem outputGrows_of_sender {i : Instr} (h : i ∈ senders) (s : State) : OutputGrows s (afterExec i s) := by
  simp only [senders, List.mem_cons, List.not_mem_nil, or_false] at h
  rcases h with rfl | rfl | rfl | rfl | rfl | rfl
  · exact outputGrows_of_append [binAck] rfl rfl
  · exact outputGrows_of_append s.cfg.versionReply rfl rfl
  · exact outputGrows_of_append (readbackText s.cfg.pixelCount s.mem s.cfg.newline) rfl rfl
  · exact outputGrows_of_append (readbackBinary s.cfg.pixelCount s.mem) rfl rfl
  · exact outputGrows_of_append (Config.pairing s.draws).sends rfl rfl
  · rw [afterExec_reqHandoff, requestHandoff_eq]
    exact outputGrows_of_append (replyBytes s.cfg (transmitAvailable s.sampled) (Config.request s.draws)) rfl rfl

theorem outputGrows_afterExec (i : Instr) (s : State) : OutputGrows s (afterExec i s) := by
  by_cases hsend : i ∈ senders
  · exact outputGrows_of_sender hsend s
  by_cases hbaud : ∃ row ∈ baudCommands, i = row.1
  · obtain ⟨row, hrow, rfl⟩ := hbaud
    rw [afterExec_baudCommand s row hrow]
    exact outputGrows_baudRequest row.2.2 s
  obtain ⟨htx, hline, -⟩ := afterExec_sameOutput hsend (fun row hrow h => hbaud ⟨row, hrow, h⟩) s
  exact outputGrows_of_same htx hline

theorem outputGrows_finishInvocation (s : State) : OutputGrows s (finishInvocation s) := by
  unfold finishInvocation
  rcases schedulerStep_cases s with ⟨-, -, h⟩ | ⟨-, h⟩ <;> rw [h]
  · exact outputGrows_of_append (readbackBinary s.cfg.pixelCount s.mem) rfl rfl
  · exact outputGrows_of_same rfl rfl

theorem output_keptByMoves (s : State) : KeptByMoves (OutputGrows s) where
  schedule _ _ h := h
  poll t h := by rw [poll_frame]; exact h
  endLoop _ h := h
  byte t _ h := outputGrows_trans h (outputGrows_afterExec _ t)
  budget t h := by rw [afterByte_frame]; exact h
  finish t h := outputGrows_trans h (outputGrows_finishInvocation t)
  arrive _ _ h := h
  transmit t n h := outputGrows_trans h (outputGrows_sendBytes n t)
  inputs _ _ h := h
  foreign _ _ h := h
  clearReconnect _ h := h
  reset _ h := h

/-- Settles O45: each move appends to TX, moves its head to the line, or leaves both. -/
theorem outputIsNeverLostOrReordered : Obligations.OutputIsNeverLostOrReordered :=
  fun s _ h => step_keeps (output_keptByMoves s) h (outputGrows_of_same rfl rfl)

/-! ## The cells and the shown image (R58 to R62) -/

/-- An instruction that is no hand-off stores at most one cell, and shows the old image or the cells. -/
theorem afterExec_shown {i : Instr} (hpair : i ≠ .pairHandoff) (hreq : i ≠ .reqHandoff) (s : State) :
    (afterExec i s).shown = s.shown ∨ (afterExec i s).shown = (afterExec i s).mem := by
  by_cases hframe : ∀ b, i ≠ .pxB b ∧ i ≠ .thChk b ∧ i ≠ .binLenLo b
  · exact .inl (afterExec_sameSink hframe hpair hreq s).shown
  simp only [not_forall, not_and_or, not_not] at hframe
  obtain ⟨b, rfl | rfl | rfl⟩ := hframe
  · rw [afterExec_pxB, finishByte_shown, finishByte_mem]
    split
    · exact .inr (by simp)
    · exact .inl (by simp)
  · rw [afterExec_thChk, finishByte_shown, finishByte_mem]
    split
    · split
      · exact .inr (by simp)
      · exact .inl rfl
    · exact .inl (by simp)
  · rw [afterExec_binLenLo, finishByte_shown, finishByte_mem]
    split
    · exact .inr (by simp)
    · exact .inl (by simp)

/-- What a store keeps of a memory, a byte step keeps of the cells and of the shown image. -/
theorem afterExec_keeps_memories {P : Memory → Prop} {s : State}
    (hP : ∀ m i p, P m → P (sinkStore s.cfg.pixelCount m i p)) (i : Instr) (hmem : P s.mem) (hshown : P s.shown) :
    P (afterExec i s).mem ∧ P (afterExec i s).shown := by
  by_cases hpair : i = .pairHandoff
  · subst hpair
    exact sinkActs_keeps hP _ _ _ hmem hshown
  by_cases hreq : i = .reqHandoff
  · subst hreq
    rw [afterExec_reqHandoff, requestHandoff_eq]
    exact sinkActs_keeps hP _ _ _ hmem hshown
  have hmem' : P (afterExec i s).mem := by
    rw [afterExec_mem hpair hreq]
    cases i
    case pxB b => exact hP _ _ _ hmem
    all_goals exact hmem
  rcases afterExec_shown hpair hreq s with h | h <;> rw [h]
  · exact ⟨hmem', hshown⟩
  · exact ⟨hmem', hmem'⟩

theorem memoryInv_iff (s : State) :
    MemoryInv s ↔ (Memory.wf s.mem = true ∧ ∀ c ∈ s.mem, c.1 < 4 * s.cfg.pixelCount) ∧
      (Memory.wf s.shown = true ∧ ∀ c ∈ s.shown, c.1 < 4 * s.cfg.pixelCount) :=
  ⟨fun h => ⟨⟨h.canonical, h.inSink⟩, ⟨h.shownCanonical, h.shownInSink⟩⟩,
    fun ⟨⟨h1, h2⟩, ⟨h3, h4⟩⟩ => ⟨h1, h3, h2, h4⟩⟩

theorem sinkStore_keeps_form (n : Nat) (m : Memory) (i : Nat) (p : Pixel)
    (h : Memory.wf m = true ∧ ∀ c ∈ m, c.1 < 4 * n) :
    Memory.wf (sinkStore n m i p) = true ∧ ∀ c ∈ sinkStore n m i p, c.1 < 4 * n :=
  ⟨sinkStore_wf n m i p h.1, sinkStore_bound n m i p h.2⟩

theorem memoryInv_of_same {s t : State} (h : MemoryInv s) (hcfg : t.cfg = s.cfg) (hmem : t.mem = s.mem)
    (hshown : t.shown = s.shown) : MemoryInv t := by
  rw [memoryInv_iff, hcfg, hmem, hshown, ← memoryInv_iff]
  exact h

theorem memoryInv_keptByMoves : KeptByMoves MemoryInv where
  schedule _ _ h := memoryInv_of_same h rfl rfl rfl
  poll s h := by rw [poll_frame]; exact memoryInv_of_same h rfl rfl rfl
  endLoop _ h := memoryInv_of_same h rfl rfl rfl
  byte s b h := by
    rw [memoryInv_iff] at h ⊢
    rw [afterExec_cfg]
    exact afterExec_keeps_memories (sinkStore_keeps_form s.cfg.pixelCount) _ h.1 h.2
  budget s h := by rw [afterByte_frame]; exact memoryInv_of_same h rfl rfl rfl
  finish s h := by rw [finishInvocation_frame]; exact memoryInv_of_same h rfl rfl rfl
  arrive _ _ h := memoryInv_of_same h rfl rfl rfl
  transmit _ _ h := memoryInv_of_same h rfl rfl rfl
  inputs _ _ h := memoryInv_of_same h rfl rfl rfl
  foreign s c h := by
    rw [memoryInv_iff] at h ⊢
    exact sinkActs_keeps (sinkStore_keeps_form s.cfg.pixelCount) c.acts s.mem s.shown h.1 h.2
  clearReconnect _ h := memoryInv_of_same h rfl rfl rfl
  reset _ h := memoryInv_of_same h rfl rfl rfl

/-- Settles O48: every write of the cells is a store, and every image shown is the cells or the image before. -/
theorem stepKeepsTheMemoryInvariant : Obligations.StepKeepsTheMemoryInvariant :=
  fun _ _ hs h => step_keeps memoryInv_keptByMoves h hs

end Sys2Proof.Machine

/-! # The register invariant

The proof that every step keeps the invariant of R23 to R37: what FrameContext holds is said position by position, and
each handler takes what its position says to what the next one says. -/

namespace Sys2Proof.Machine

/-! ## Wire fields in the registers -/

@[simp] theorem hiByte_lengthWithLow (hi lo : Byte) : hiByte (lengthWithLow (highHalf hi) lo) = hi := by
  have := lo.isLt
  apply BitVec.eq_of_toNat_eq
  rw [hiByte_toNat, lengthWithLow_toNat]
  omega

@[simp] theorem loByte_lengthWithLow (hi lo : Byte) : loByte (lengthWithLow (highHalf hi) lo) = lo := by
  have := lo.isLt
  apply BitVec.eq_of_toNat_eq
  rw [loByte_toNat, lengthWithLow_toNat]
  omega

/-- The count is one more than the field of its two bytes (R84). -/
theorem countWithLow_sub_one (hi lo : Byte) :
    countWithLow (highHalf hi) lo - 1 = lengthWithLow (highHalf hi) lo := by
  have h := countWithLow_bytes (lengthWithLow (highHalf hi) lo)
  rw [hiByte_lengthWithLow, loByte_lengthWithLow] at h
  rw [h]
  exact BitVec.add_sub_cancel _ _

theorem toNat_pos_of_ne_zero {v : Half} (h : v ≠ 0) : 1 ≤ v.toNat := by
  by_contra hv
  exact h (BitVec.eq_of_toNat_eq (by show v.toNat = 0; omega))

theorem toNat_sub_one {v : Half} (h : 1 ≤ v.toNat) : (v - 1).toNat = v.toNat - 1 := by
  have hone : (1 : Half).toNat = 1 := rfl
  have := v.isLt
  rw [BitVec.toNat_sub, hone]
  omega

theorem toNat_add_one {v : Half} (h : v.toNat < 65535) : (v + 1).toNat = v.toNat + 1 := by
  have hone : (1 : Half).toNat = 1 := rfl
  rw [BitVec.toNat_add, hone]
  omega

/-! ## FrameContext, position by position -/

/-- No pixel has been started (R23). -/
def NoPixel (r : Registers) : Prop := r.idx = 0 ∧ r.r = 0 ∧ r.g = 0 ∧ r.bin = false

/-- What FrameContext holds in each position (R24 to R26, R85, R95). -/
def FrameInv (r : Registers) : Prop :=
  match r.state with
  | .idle | .thM2 | .thM3 | .thCntHi | .binType | .binLenHi => r.count = 0 ∧ r.chk = 0 ∧ NoPixel r
  | .thCntLo => loByte r.count = 0 ∧ r.chk = hiByte r.count ∧ NoPixel r
  | .thChk => r.chk = hiByte (r.count - 1) ^^^ loByte (r.count - 1) ^^^ 0x55 ∧ NoPixel r
  | .binLenLo => loByte r.count = 0 ∧ r.chk = 0 ∧ NoPixel r
  | .pxR | .pxG | .pxB =>
    1 ≤ r.count.toNat ∧ r.idx.toNat + r.count.toNat ≤ 65535 ∧
      (r.bin = true → r.chk = 0 ∧ r.idx.toNat + r.count.toNat ≤ 21845)

/-- `baud` is legal and the rate of the link, tokens are values of `TOKEN`, and continuous mode implies idle
(R28, R30, R37). -/
structure ControlInv (s : State) : Prop where
  baudLegal : s.baud = s.cfg.defaultBaud ∨ s.baud ∈ baudTable
  baudIsLinkRate : s.linkRate = s.baud
  tokensInType : s.cfg.tokenType.has s.token = true ∧ s.cfg.tokenType.has s.lastToken = true
  continuousIdle : s.continuous = true → s.state = .idle

theorem frameInv_of_registerInv {s : State} (h : RegisterInv s) : FrameInv s.registers := by
  have notBin (hpos : ¬ s.inPixel) : s.bin = false := by
    by_contra hbin
    exact hpos (h.binInPixel (by simpa using hbin))
  have noPixel (hpos : ¬ s.inPixel) : NoPixel s.registers := by
    obtain ⟨hidx, hr, hg⟩ := h.noPixelYet hpos
    exact ⟨hidx, hr, hg, notBin hpos⟩
  have clear (hpos : s.state ∈ [.idle, .thM2, .thM3, .thCntHi, .binType, .binLenHi]) :
      s.count = 0 ∧ s.chk = 0 ∧ NoPixel s.registers := by
    obtain ⟨hcount, hchk, hrest⟩ := h.clear hpos
    exact ⟨hcount, hchk, hrest⟩
  have pixel (hpos : s.inPixel) : 1 ≤ s.count.toNat ∧ s.idx.toNat + s.count.toNat ≤ 65535 ∧
      (s.bin = true → s.chk = 0 ∧ s.idx.toNat + s.count.toNat ≤ 21845) :=
    ⟨(h.remaining hpos).1, (h.remaining hpos).2, h.binNoChecksum⟩
  unfold FrameInv
  have hstate : s.registers.state = s.state := rfl
  rw [hstate]
  cases hs : s.state
  case thCntLo => exact ⟨h.highOnly (.inl hs), h.accumulator hs, noPixel (by simp [State.inPixel, hs])⟩
  case thChk => exact ⟨h.checksum hs, noPixel (by simp [State.inPixel, hs])⟩
  case binLenLo => exact ⟨h.highOnly (.inr hs), h.lengthNoChecksum hs, noPixel (by simp [State.inPixel, hs])⟩
  case pxR | pxG | pxB => exact pixel (by simp [State.inPixel, hs])
  all_goals exact clear (by simp [hs])

theorem controlInv_of_registerInv {s : State} (h : RegisterInv s) : ControlInv s :=
  ⟨h.baudLegal, h.baudIsLinkRate, h.tokensInType, h.continuousIdle⟩

theorem frameInv_header {r : Registers} (h : FrameInv r)
    (hpos : r.state ∈ [.idle, .thM2, .thM3, .thCntHi, .binType, .binLenHi]) :
    r.count = 0 ∧ r.chk = 0 ∧ NoPixel r := by
  unfold FrameInv at h
  simp only [List.mem_cons, List.not_mem_nil, or_false] at hpos
  rcases hpos with hs | hs | hs | hs | hs | hs <;> rw [hs] at h <;> exact h

theorem frameInv_noPixel {r : Registers} (h : FrameInv r)
    (hpos : ¬ (r.state = .pxR ∨ r.state = .pxG ∨ r.state = .pxB)) : NoPixel r := by
  unfold FrameInv at h
  cases hs : r.state <;> rw [hs] at h hpos
  case thCntLo | binLenLo => exact h.2.2
  case thChk => exact h.2
  case pxR | pxG | pxB => simp at hpos
  all_goals exact h.2.2

theorem frameInv_pixel {r : Registers} (h : FrameInv r) (hpos : r.state = .pxR ∨ r.state = .pxG ∨ r.state = .pxB) :
    1 ≤ r.count.toNat ∧ r.idx.toNat + r.count.toNat ≤ 65535 ∧
      (r.bin = true → r.chk = 0 ∧ r.idx.toNat + r.count.toNat ≤ 21845) := by
  unfold FrameInv at h
  rcases hpos with hs | hs | hs <;> rw [hs] at h <;> exact h

theorem registerInv_of_frameInv {s : State} (hframe : FrameInv s.registers) (hcontrol : ControlInv s) :
    RegisterInv s := by
  have hbin : s.bin = true → s.inPixel := by
    intro hbin
    by_contra hpos
    obtain ⟨-, -, -, hnone⟩ := frameInv_noPixel hframe hpos
    exact absurd (hbin.symm.trans hnone) (by simp)
  have inPosition {pos : DecoderState} (hpos : s.state = pos) : FrameInv { s.registers with state := pos } := by
    rw [← hpos]
    exact hframe
  exact
    { clear := frameInv_header hframe
      highOnly := fun hpos => hpos.elim (fun h => (inPosition h).1) (fun h => (inPosition h).1)
      accumulator := fun h => (inPosition h).2.1
      checksum := fun h => (inPosition h).1
      noPixelYet := fun hpos => (frameInv_noPixel hframe hpos).imp_right fun ⟨hr, hg, _⟩ => ⟨hr, hg⟩
      remaining := fun hpos => (frameInv_pixel hframe hpos).imp_right fun ⟨hsum, _⟩ => hsum
      binInPixel := hbin
      binNoChecksum := fun h => (frameInv_pixel hframe (hbin h)).2.2 h
      lengthNoChecksum := fun h => (inPosition h).2.1
      baudLegal := hcontrol.baudLegal
      baudIsLinkRate := hcontrol.baudIsLinkRate
      tokensInType := hcontrol.tokensInType
      continuousIdle := hcontrol.continuousIdle }

/-! ## The handlers keep it -/

/-- Only the position and FrameContext matter. -/
theorem frameInv_congr {r r' : Registers} (hstate : r'.state = r.state) (hcount : r'.count = r.count)
    (hchk : r'.chk = r.chk) (hidx : r'.idx = r.idx) (hr : r'.r = r.r) (hg : r'.g = r.g) (hbin : r'.bin = r.bin)
    (h : FrameInv r) : FrameInv r' := by
  unfold FrameInv NoPixel at h ⊢
  rw [hstate, hcount, hchk, hidx, hr, hg, hbin]
  exact h

theorem frameInv_cleared (r : Registers) : FrameInv r.cleared := ⟨rfl, rfl, rfl, rfl, rfl, rfl⟩

theorem frameInv_ite {p : Prop} [Decidable p] {r r' : Registers} (h : p → FrameInv r) (h' : ¬ p → FrameInv r') :
    FrameInv (if p then r else r') := iteInduction h h'

theorem frameInv_withBaud {r : Registers} (c : Config) (target : Rate) (h : FrameInv r) :
    FrameInv (r.withBaud c target) :=
  frameInv_congr (withBaud_state c r target) (withBaud_count c r target) (withBaud_chk c r target)
    (withBaud_idx c r target) (withBaud_r c r target) (withBaud_g c r target) (withBaud_bin c r target) h

/-- After count-low the accumulator is that of the field, which is one less than the count (R84, R85). -/
theorem frameInv_thCntLo {r : Registers} (hpos : r.state = .thCntLo) (h : FrameInv r) (lo : Byte) :
    FrameInv { r with count := countWithLow r.count lo, chk := checksumWithLow r.chk lo, state := .thChk } := by
  unfold FrameInv at h
  rw [hpos] at h
  obtain ⟨hlow, hchk, hpixel⟩ := h
  refine ⟨?_, hpixel⟩
  show checksumWithLow r.chk lo = _
  rw [hchk, eq_highHalf_of_loByte hlow, countWithLow_sub_one, hiByte_lengthWithLow, loByte_lengthWithLow,
    hiByte_highHalf]
  rfl

/-- A binary frame has at most 21845 pixels (R87). -/
theorem frameInv_binLenLo {r : Registers} (hpos : r.state = .binLenLo) (h : FrameInv r) {len : Half}
    (hlen : pixelsOfLength len ≠ 0) :
    FrameInv { r with count := pixelsOfLength len, idx := 0, bin := true, state := .pxR } := by
  unfold FrameInv at h
  rw [hpos] at h
  obtain ⟨-, hchk, -⟩ := h
  have hzero : (0 : Half).toNat = 0 := rfl
  have hpos := toNat_pos_of_ne_zero hlen
  have hmax : (pixelsOfLength len).toNat ≤ 21845 := by
    have := len.isLt
    rw [pixelsOfLength_toNat]
    omega
  refine ⟨hpos, ?_, fun _ => ⟨hchk, ?_⟩⟩ <;> dsimp only <;> omega

/-- A text frame has at most 65535 pixels (R25, D4). -/
theorem frameInv_thChk {r : Registers} (hpos : r.state = .thChk) (h : FrameInv r) (hcount : r.count ≠ 0) :
    FrameInv { r with idx := 0, state := .pxR } := by
  unfold FrameInv at h
  rw [hpos] at h
  obtain ⟨-, -, -, -, hbin⟩ := h
  have hzero : (0 : Half).toNat = 0 := rfl
  have := r.count.isLt
  refine ⟨toNat_pos_of_ne_zero hcount, ?_, fun h => ?_⟩
  · dsimp only
    omega
  · simp [hbin] at h

/-- A blue byte before the last moves one pixel from `count` to `idx` (R25, R192). -/
theorem frameInv_pxB {r : Registers} (hpos : r.state = .pxB) (h : FrameInv r) (hmore : r.count - 1 ≠ 0) :
    FrameInv { r with idx := r.idx + 1, count := r.count - 1, state := .pxR } := by
  unfold FrameInv at h
  rw [hpos] at h
  obtain ⟨hcount, hsum, hbin⟩ := h
  have hcount' := toNat_sub_one hcount
  have hidx' := toNat_add_one (v := r.idx) (by omega)
  have hleft := toNat_pos_of_ne_zero hmore
  refine ⟨hleft, ?_, fun h => ⟨(hbin h).1, ?_⟩⟩
  · dsimp only
    omega
  · have := (hbin h).2
    dsimp only
    omega

/-- Each handler takes what FrameContext holds in its position to what it holds in the next. -/
theorem frameInv_handled {i : Instr} (c : Config) {r : Registers} (hpos : r.state = i.position) (h : FrameInv r) :
    FrameInv (r.handled c i) := by
  have hframe := h
  unfold FrameInv at hframe
  rw [hpos] at hframe
  cases i
  case thStart | binStart | binData => exact hframe
  case thM2 b => exact frameInv_ite (fun _ => hframe) (fun _ => frameInv_cleared r)
  case thM3 b => exact frameInv_ite (fun _ => hframe) (fun _ => frameInv_cleared r)
  case thCntHi b => exact ⟨loByte_highHalf b, (hiByte_highHalf b).symm, hframe.2.2⟩
  case thCntLo b => exact frameInv_thCntLo hpos h b
  case thChk b => exact frameInv_ite (fun hb => frameInv_thChk hpos h hb.2) (fun _ => frameInv_cleared r)
  case binPing | binUnsupported => exact frameInv_cleared r
  case binLenHi b => exact ⟨loByte_highHalf b, hframe.2⟩
  case binLenLo b => exact frameInv_ite (fun _ => frameInv_cleared r) (fun hlen => frameInv_binLenLo hpos h hlen)
  case pxR | pxG => exact hframe
  case pxB b => exact frameInv_ite (fun _ => frameInv_cleared r) (fun hmore => frameInv_pxB hpos h hmore)
  case cmdBaud0 | cmdBaud1 | cmdBaud2 | cmdBaud3 | cmdBaud4 | cmdBaud5 | cmdBaud6 | cmdBaud7 =>
    exact frameInv_withBaud c _ h
  case cmdReconnect | cmdContOff | cmdContOn => exact frameInv_congr rfl rfl rfl rfl rfl rfl rfl h
  all_goals exact h

theorem frameInv_afterExec (b : Byte) {s : State} (h : FrameInv s.registers) :
    FrameInv (afterExec (decode s.state b) s).registers := by
  have hpos : s.registers.state = (decode s.state b).position := (decode_position s.state b).symm
  rw [afterExec_registers]
  exact frameInv_congr rfl rfl rfl rfl rfl rfl rfl (frameInv_handled s.cfg hpos h)

/-! ## The byte step keeps LinkConfig legal -/

theorem baudRequest_linkRate {target : Rate} {s : State} (h : s.linkRate = s.baud) :
    (baudRequest target s).linkRate = (baudRequest target s).baud := by
  unfold baudRequest
  split
  · exact h
  · rfl

/-- `baud` and the rate of the link change together (R28, R213). -/
theorem afterExec_linkRate {i : Instr} {s : State} (h : s.linkRate = s.baud) :
    (afterExec i s).linkRate = (afterExec i s).baud := by
  by_cases hbaud : ∃ row ∈ baudCommands, i = row.1
  · obtain ⟨row, hrow, rfl⟩ := hbaud
    rw [afterExec_baudCommand s row hrow]
    exact baudRequest_linkRate h
  have hkept : (afterExec i s).baud = s.baud := by
    have hafter : (afterExec i s).baud = (s.registers.handled s.cfg i).baud :=
      congrArg Registers.baud (afterExec_registers i s)
    rw [hafter]
    rcases handled_baud_register s.cfg s.registers i with hsame | ⟨row, hrow, hi, -⟩
    · exact hsame
    · exact absurd ⟨row, hrow, hi.symm⟩ hbaud
  have hrate : (afterExec i s).linkRate = s.linkRate := by
    by_cases hsend : i ∈ senders
    · simp only [senders, List.mem_cons, List.not_mem_nil, or_false] at hsend
      rcases hsend with rfl | rfl | rfl | rfl | rfl | rfl
      case inr.inr.inr.inr.inr => rw [afterExec_reqHandoff, requestHandoff_eq]; rfl
      all_goals rfl
    · exact (afterExec_sameOutput hsend (fun row hrow h => hbaud ⟨row, hrow, h⟩) s).2.2
  rw [hrate, hkept, h]

theorem baudTable_of_baudCommands : ∀ row ∈ baudCommands, row.2.2 ∈ baudTable := by decide

theorem afterExec_baudLegal (i : Instr) {s : State} (h : s.baud = s.cfg.defaultBaud ∨ s.baud ∈ baudTable) :
    (afterExec i s).baud = s.cfg.defaultBaud ∨ (afterExec i s).baud ∈ baudTable := by
  have hafter : (afterExec i s).baud = (s.registers.handled s.cfg i).baud :=
    congrArg Registers.baud (afterExec_registers i s)
  rw [hafter]
  rcases handled_baud_register s.cfg s.registers i with hsame | ⟨row, hrow, -, hrate⟩
  · rw [hsame]
    exact h
  · rw [hrate]
    exact .inr (baudTable_of_baudCommands row hrow)

/-- The token is the one before, or a choice of a value of the type (R63). -/
theorem afterExec_tokenInType (i : Instr) {s : State} (h : s.cfg.tokenType.has s.token = true) :
    s.cfg.tokenType.has (afterExec i s).token = true := by
  by_cases hpair : i = .pairHandoff
  · subst hpair
    exact tokenType_has_value _ _
  by_cases hreq : i = .reqHandoff
  · subst hreq
    rw [afterExec_reqHandoff, requestHandoff_eq]
    exact tokenType_has_value _ _
  by_cases hframe : ∀ b, i ≠ .pxB b ∧ i ≠ .thChk b ∧ i ≠ .binLenLo b
  · rw [(afterExec_sameSink hframe hpair hreq s).token]
    exact h
  simp only [not_forall, not_and_or, not_not] at hframe
  obtain ⟨b, rfl | rfl | rfl⟩ := hframe
  · rw [afterExec_pxB, finishByte_token]
    split <;> simp
  · rw [afterExec_thChk, finishByte_token]
    split
    · split
      · simp
      · exact h
    · simpa using h
  · rw [afterExec_binLenLo, finishByte_token]
    split
    · simp
    · simpa using h

theorem afterExec_lastToken (i : Instr) (s : State) : (afterExec i s).lastToken = s.lastToken :=
  (congrArg Registers.lastToken (afterExec_registers i s)).trans (handled_lastToken s.cfg s.registers i)

/-- Continuous mode after a byte means that the byte was read, and left the decoder, in the idle position (R37). -/
theorem afterExec_continuousIdle (b : Byte) {s : State} (h : s.continuous = true → s.state = .idle)
    (hcont : (afterExec (decode s.state b) s).continuous = true) : (afterExec (decode s.state b) s).state = .idle := by
  obtain ⟨hother, -, hkept, -⟩ := everyOtherByteEndsContinuousMode s _ b (exec_eq_next _ s)
  have hidle : s.state = .idle := by
    by_contra hpos
    by_cases hb : b = 0x4F
    · exact hpos (h ((hkept hb hpos).symm.trans hcont))
    · simp [hother hb (fun hp => hpos hp.1)] at hcont
  have hb : b = 0x4F ∨ b = 0x49 := by
    by_contra hne
    rw [not_or] at hne
    simp [hother hne.1 (fun hp => hne.2 hp.2)] at hcont
  rw [afterExec_state, transition, hidle]
  rcases hb with rfl | rfl <;> rfl

theorem controlInv_afterExec (b : Byte) {s : State} (h : ControlInv s) :
    ControlInv (afterExec (decode s.state b) s) where
  baudLegal := by rw [afterExec_cfg]; exact afterExec_baudLegal _ h.baudLegal
  baudIsLinkRate := afterExec_linkRate h.baudIsLinkRate
  tokensInType := by
    rw [afterExec_cfg, afterExec_lastToken]
    exact ⟨afterExec_tokenInType _ h.tokensInType.1, h.tokensInType.2⟩
  continuousIdle := afterExec_continuousIdle b h.continuousIdle

/-! ## The other moves -/

theorem registerInv_iff (s : State) : RegisterInv s ↔ FrameInv s.registers ∧ ControlInv s :=
  ⟨fun h => ⟨frameInv_of_registerInv h, controlInv_of_registerInv h⟩, fun h => registerInv_of_frameInv h.1 h.2⟩

/-- A move that leaves the position, FrameContext, LinkConfig and the token, but for `last_token`, which may take the
token's value. -/
theorem registerInv_of_same {s t : State} (h : RegisterInv s) (hregs : t.registers.decoder = s.registers.decoder)
    (hcfg : t.cfg = s.cfg) (hrate : t.linkRate = s.linkRate) (htoken : t.token = s.token)
    (hlast : t.lastToken = s.lastToken ∨ t.lastToken = s.token) : RegisterInv t := by
  obtain ⟨hframe, hcontrol⟩ := (registerInv_iff s).mp h
  have hfield {α : Type} (f : Registers → α) : f t.registers.decoder = f s.registers.decoder := congrArg f hregs
  have hbaud : t.baud = s.baud := hfield Registers.baud
  have hcont : t.continuous = s.continuous := hfield Registers.continuous
  have hstate : t.state = s.state := hfield Registers.state
  refine (registerInv_iff t).mpr ⟨?_, ?_⟩
  · exact frameInv_congr (r := s.registers) hstate (hfield Registers.count) (hfield Registers.chk)
      (hfield Registers.idx) (hfield Registers.r) (hfield Registers.g) (hfield Registers.bin) hframe
  · constructor
    case baudLegal => rw [hbaud, hcfg]; exact hcontrol.baudLegal
    case baudIsLinkRate => rw [hrate, hbaud]; exact hcontrol.baudIsLinkRate
    case tokensInType =>
      rw [hcfg, htoken]
      refine ⟨hcontrol.tokensInType.1, ?_⟩
      rcases hlast with hlast | hlast <;> rw [hlast]
      · exact hcontrol.tokensInType.2
      · exact hcontrol.tokensInType.1
    case continuousIdle => rw [hcont, hstate]; exact hcontrol.continuousIdle

theorem finishInvocation_lastToken (s : State) :
    (finishInvocation s).lastToken = s.lastToken ∨ (finishInvocation s).lastToken = s.token := by
  unfold finishInvocation
  rcases schedulerStep_cases s with ⟨-, -, h⟩ | ⟨-, h⟩ <;> rw [h]
  · exact .inr rfl
  · exact .inl rfl

/-- The reset values meet the invariant in every environment (R36). -/
theorem registerInv_resetBlock {s : State} (h : s.cfg.tokenType.has s.token = true) : RegisterInv (resetBlock s) :=
  (registerInv_iff _).mpr
    ⟨frameInv_cleared s.registers,
      { baudLegal := .inl rfl, baudIsLinkRate := rfl, tokensInType := ⟨h, tokenType_has_value _ _⟩
        continuousIdle := fun _ => rfl }⟩

theorem registerInv_keptByMoves : KeptByMoves RegisterInv where
  schedule _ _ h := registerInv_of_same h rfl rfl rfl rfl (.inl rfl)
  poll s h := by rw [poll_frame]; exact registerInv_of_same h rfl rfl rfl rfl (.inl rfl)
  endLoop _ h := registerInv_of_same h rfl rfl rfl rfl (.inl rfl)
  byte s b h := by
    obtain ⟨hframe, hcontrol⟩ := (registerInv_iff s).mp h
    exact (registerInv_iff _).mpr ⟨frameInv_afterExec b hframe, controlInv_afterExec b hcontrol⟩
  budget s h := by rw [afterByte_frame]; exact registerInv_of_same h rfl rfl rfl rfl (.inl rfl)
  finish s h := by
    have hlast := finishInvocation_lastToken s
    rw [finishInvocation_frame]
    exact registerInv_of_same h rfl rfl rfl rfl hlast
  arrive _ _ h := registerInv_of_same h rfl rfl rfl rfl (.inl rfl)
  transmit _ _ h := registerInv_of_same h rfl rfl rfl rfl (.inl rfl)
  inputs _ _ h := registerInv_of_same h rfl rfl rfl rfl (.inl rfl)
  foreign s c h := by
    obtain ⟨hframe, hcontrol⟩ := (registerInv_iff s).mp h
    obtain ⟨hlegal, hrate, ⟨-, hlast⟩, hcont⟩ := hcontrol
    exact (registerInv_iff _).mpr ⟨hframe, ⟨hlegal, hrate, ⟨tokenType_has_value _ _, hlast⟩, hcont⟩⟩
  clearReconnect s h := by
    obtain ⟨hframe, hcontrol⟩ := (registerInv_iff s).mp h
    obtain ⟨hlegal, hrate, htokens, hcont⟩ := hcontrol
    exact (registerInv_iff _).mpr
      ⟨frameInv_congr rfl rfl rfl rfl rfl rfl rfl hframe, ⟨hlegal, hrate, htokens, hcont⟩⟩
  reset _ h := registerInv_resetBlock h.tokensInType.1

/-! ## The obligations -/

/-- Settles O47: FrameContext by what each position says of it, LinkConfig and the tokens by their writers. -/
theorem stepKeepsTheRegisterInvariant : Obligations.StepKeepsTheRegisterInvariant :=
  fun _ _ hs h => step_keeps registerInv_keptByMoves h hs

/-- Settles O46: the reset state is what a reset makes of it, and its memories list nothing. -/
theorem resetMeetsTheInvariants : Obligations.ResetMeetsTheInvariants := by
  have hreset : RegisterInv State.reset := registerInv_resetBlock (s := State.reset) (tokenType_has_value _ _)
  exact ⟨hreset, { canonical := rfl, shownCanonical := rfl, inSink := nofun, shownInSink := nofun }⟩

end Sys2Proof.Machine

/-! # The readback frames

Proofs of the statements of 30_encoding.md section 5 and 46_readback.md: the layout of the binary frame, the shape of
the textual one, and what the decimal digits denote. -/

namespace Sys2Proof.Machine

/-! ## Decimal digits (R252, R253) -/

theorem toNat_append_byte {w : Nat} (x : BitVec w) (y : Byte) : (x ++ y).toNat = x.toNat * 256 + y.toNat := by
  rw [BitVec.toNat_append, ← Nat.shiftLeft_add_eq_or_of_lt y.isLt, Nat.shiftLeft_eq]

theorem packed_toNat (p : Pixel) :
    (packed p).toNat = p.w.toNat * 2 ^ 24 + p.r.toNat * 2 ^ 16 + p.g.toNat * 2 ^ 8 + p.b.toNat := by
  rw [packed, toNat_append_byte, toNat_append_byte, toNat_append_byte]
  omega

theorem digitByte_toNat {d : Nat} (h : d < 10) : (digitByte d).toNat = 0x30 + d := by
  rw [digitByte, BitVec.toNat_ofNat]
  omega

theorem digitsValue_append_digit (ds : List Byte) {d : Nat} (h : d < 10) :
    digitsValue (ds ++ [digitByte d]) = 10 * digitsValue ds + d := by
  simp only [digitsValue, List.foldl_append, List.foldl_cons, List.foldl_nil, digitByte_toNat h]
  omega

/-- With enough fuel the digits denote the number. -/
theorem digitsValue_decimalDigits (fuel v : Nat) (h : v < 10 ^ fuel) : digitsValue (decimalDigits fuel v) = v := by
  induction fuel generalizing v with
  | zero =>
    have hv : v = 0 := by omega
    rw [hv]
    rfl
  | succ fuel ih =>
    rw [decimalDigits]
    split
    · exact (digitsValue_append_digit [] ‹_›).trans (Nat.zero_add v)
    · rw [digitsValue_append_digit _ (Nat.mod_lt _ (by omega)), ih (v / 10) (by omega)]
      omega

theorem decimalDigits_ascii (fuel v : Nat) : ∀ d ∈ decimalDigits fuel v, 0x30 ≤ d.toNat ∧ d.toNat ≤ 0x39 := by
  have ascii {k : Nat} (h : k < 10) : 0x30 ≤ (digitByte k).toNat ∧ (digitByte k).toNat ≤ 0x39 := by
    rw [digitByte_toNat h]
    omega
  induction fuel generalizing v with
  | zero => simp [decimalDigits]
  | succ fuel ih =>
    intro d hd
    rw [decimalDigits] at hd
    split at hd
    · rw [List.mem_singleton.mp hd]
      exact ascii ‹_›
    · rcases List.mem_append.mp hd with hd | hd
      · exact ih _ d hd
      · rw [List.mem_singleton.mp hd]
        exact ascii (Nat.mod_lt _ (by omega))

theorem decimalDigits_length_le (fuel v : Nat) : (decimalDigits fuel v).length ≤ fuel := by
  induction fuel generalizing v with
  | zero => exact Nat.le_refl 0
  | succ fuel ih =>
    rw [decimalDigits]
    split
    · simp
    · simpa using ih (v / 10)

theorem decimalDigits_length_pos (fuel v : Nat) : 1 ≤ (decimalDigits (fuel + 1) v).length := by
  rw [decimalDigits]
  split <;> simp

/-- The first digit is zero for the number zero only. -/
theorem decimalDigits_head (fuel v : Nat) (h : v < 10 ^ fuel) (hv : v ≠ 0) :
    (decimalDigits fuel v).head? ≠ some 0x30 := by
  induction fuel generalizing v with
  | zero => simp [decimalDigits]
  | succ fuel ih =>
    rw [decimalDigits]
    split
    · rename_i hdigit
      intro hhead
      have hbyte : digitByte v = 0x30 := Option.some.inj hhead
      have hnat := congrArg BitVec.toNat hbyte
      rw [digitByte_toNat hdigit] at hnat
      exact hv (by simpa using hnat)
    · have hq : v / 10 < 10 ^ fuel := by omega
      have hnonempty : decimalDigits fuel (v / 10) ≠ [] := by
        intro hnil
        have hvalue := digitsValue_decimalDigits fuel (v / 10) hq
        rw [hnil] at hvalue
        have hzero : digitsValue [] = 0 := rfl
        omega
      rw [List.head?_append_of_ne_nil _ hnonempty]
      exact ih (v / 10) hq (by omega)

theorem decimal_length (v : BitVec 32) : 1 ≤ (decimal v).length ∧ (decimal v).length ≤ 10 :=
  ⟨decimalDigits_length_pos 9 _, decimalDigits_length_le 10 _⟩

/-- Settles O35: the packing is read off the concatenation, the digits by induction on their number. -/
theorem decimalDigitsDenoteTheColour : Obligations.DecimalDigitsDenoteTheColour := by
  refine ⟨packed_toNat, fun v => ?_⟩
  have hfuel : v.toNat < 10 ^ 10 := Nat.lt_trans v.isLt (by decide)
  refine ⟨digitsValue_decimalDigits 10 _ hfuel, decimalDigits_ascii 10 _, (decimal_length v).1, (decimal_length v).2,
    fun hv => decimalDigits_head 10 _ hfuel fun h => ?_⟩
  exact hv (BitVec.eq_of_toNat_eq h)

/-! ## The textual frame (R91, R251) -/

theorem commaSeparated_cons (d : List Byte) {ds : List (List Byte)} (h : ds ≠ []) :
    commaSeparated (d :: ds) = d ++ 0x2C :: commaSeparated ds := by
  cases ds with
  | nil => exact absurd rfl h
  | cons e ds => rfl

/-- Every value but the last is followed by a comma. -/
theorem commaSeparated_append_last (ds : List (List Byte)) (d : List Byte) :
    commaSeparated (ds ++ [d]) = ds.flatMap (· ++ [0x2C]) ++ d := by
  induction ds with
  | nil => rfl
  | cons e ds ih =>
    rw [List.cons_append, commaSeparated_cons _ (by simp), ih]
    simp

/-- The length of pieces strung together, each between `lo` and `hi` long. -/
theorem flatMap_range_length_bounds {f : Nat → List Byte} {lo hi : Nat}
    (h : ∀ i, lo ≤ (f i).length ∧ (f i).length ≤ hi) (n : Nat) :
    lo * n ≤ ((List.range n).flatMap f).length ∧ ((List.range n).flatMap f).length ≤ hi * n := by
  induction n with
  | zero => simp
  | succ n ih =>
    obtain ⟨hlo, hhi⟩ := h n
    rw [List.range_succ, List.flatMap_append, List.length_append, List.flatMap_singleton, Nat.mul_succ, Nat.mul_succ]
    omega

theorem readbackText_succ (n : Nat) (m : Memory) (newline : List Byte) :
    readbackText (n + 1) m newline =
      0x5B :: (((List.range n).flatMap (fun i => decimal (packed (sinkRead m i)) ++ [0x2C])) ++
        decimal (packed (sinkRead m n))) ++ 0x5D :: newline := by
  rw [readbackText, List.range_succ, List.map_append, List.map_singleton, commaSeparated_append_last, List.flatMap_map]

/-- Settles O34: the separator stands after every value but the last, and each value has one to ten digits. -/
theorem textReadbackShape : Obligations.TextReadbackShape := by
  intro n m newline
  have hpieces : ∀ i, 2 ≤ (decimal (packed (sinkRead m i)) ++ [0x2C]).length ∧
      (decimal (packed (sinkRead m i)) ++ [0x2C]).length ≤ 11 := by
    intro i
    have := decimal_length (packed (sinkRead m i))
    rw [List.length_append, List.length_singleton]
    omega
  have hbody := flatMap_range_length_bounds hpieces n
  have hlast := decimal_length (packed (sinkRead m n))
  refine ⟨rfl, readbackText_succ n m newline, ?_, ?_⟩ <;>
    rw [readbackText_succ, List.length_append, List.length_cons, List.length_append, List.length_cons] <;> omega

/-! ## The binary frame (R90, R250) -/

/-- In pieces of three strung together, the piece at `k` starts at `3 * k`. -/
theorem flatMap_range_getElem? {f : Nat → List Byte} (h : ∀ i, (f i).length = 3) {n k j : Nat} (hk : k < n)
    (hj : j < 3) : ((List.range n).flatMap f)[3 * k + j]? = (f k)[j]? := by
  induction n with
  | zero => omega
  | succ n ih =>
    have hlen : ((List.range n).flatMap f).length = 3 * n := by
      have := flatMap_range_length_bounds (lo := 3) (hi := 3) (fun i => by rw [h i]; omega) n
      omega
    rw [List.range_succ, List.flatMap_append, List.flatMap_singleton]
    by_cases hlast : k = n
    · subst hlast
      rw [List.getElem?_append_right (by omega), hlen, Nat.add_sub_cancel_left]
    · rw [List.getElem?_append_left (by omega)]
      exact ih (by omega)

/-- The composited cells as they stand in a binary readback frame. -/
def readbackBody (n : Nat) (m : Memory) : List Byte := (List.range n).flatMap fun i => compositeBytes (sinkRead m i)

theorem readbackBody_length (n : Nat) (m : Memory) : (readbackBody n m).length = 3 * n := by
  have := flatMap_range_length_bounds (f := fun i => compositeBytes (sinkRead m i)) (lo := 3) (hi := 3)
    (fun _ => ⟨Nat.le_refl 3, Nat.le_refl 3⟩) n
  unfold readbackBody
  omega

theorem readbackBinary_eq (n : Nat) (m : Memory) :
    readbackBinary n m =
      0xC9 :: 0xDA :: hiByte (readbackLength n) :: loByte (readbackLength n) ::
        (readbackBody n m ++ [0x36, 0x0A]) := rfl

theorem readbackBinary_body {n k j : Nat} (m : Memory) (hk : k < n) (hj : j < 3) :
    (readbackBinary n m)[4 + (3 * k + j)]? = (compositeBytes (sinkRead m k))[j]? := by
  have hbody := readbackBody_length n m
  rw [readbackBinary_eq, show 4 + (3 * k + j) = 3 * k + j + 1 + 1 + 1 + 1 by omega]
  simp only [List.getElem?_cons_succ]
  rw [List.getElem?_append_left (by omega)]
  exact flatMap_range_getElem? (fun _ => rfl) hk hj

theorem readbackBinary_footer (n : Nat) (m : Memory) (j : Nat) :
    (readbackBinary n m)[4 + (3 * n + j)]? = [(0x36 : Byte), 0x0A][j]? := by
  have hbody := readbackBody_length n m
  rw [readbackBinary_eq, show 4 + (3 * n + j) = 3 * n + j + 1 + 1 + 1 + 1 by omega]
  simp only [List.getElem?_cons_succ]
  rw [List.getElem?_append_right (by omega), hbody, Nat.add_sub_cancel_left]

theorem hiByte_readbackLength (n : Nat) : hiByte (readbackLength n) = BitVec.ofNat 8 (3 * n / 256) := by
  apply BitVec.eq_of_toNat_eq
  rw [hiByte_toNat, readbackLength, BitVec.toNat_ofNat, BitVec.toNat_ofNat]
  exact Nat.mod_mul_right_div_self (3 * n) 256 256

theorem loByte_readbackLength (n : Nat) : loByte (readbackLength n) = BitVec.ofNat 8 (3 * n) := by
  apply BitVec.eq_of_toNat_eq
  rw [loByte_toNat, readbackLength, BitVec.toNat_ofNat, BitVec.toNat_ofNat]
  omega

/-- Settles O33: four header bytes, three bytes for each cell in order, two footer bytes. -/
theorem binaryReadbackLayout : Obligations.BinaryReadbackLayout := by
  intro n m
  refine ⟨?length, rfl, rfl, congrArg some (hiByte_readbackLength n), congrArg some (loByte_readbackLength n),
    fun k hk => ⟨?red, ?green, ?blue⟩, ?footer1, ?footer2⟩
  case length =>
    have hbody := readbackBody_length n m
    simp only [readbackBinary_eq, List.length_cons, List.length_append, List.length_nil, hbody]
    omega
  case red => exact readbackBinary_body m hk (j := 0) (by omega)
  case green =>
    rw [show 5 + 3 * k = 4 + (3 * k + 1) by omega]
    exact readbackBinary_body m hk (by omega)
  case blue =>
    rw [show 6 + 3 * k = 4 + (3 * k + 2) by omega]
    exact readbackBinary_body m hk (by omega)
  case footer1 => exact readbackBinary_footer n m 0
  case footer2 =>
    rw [show 5 + 3 * n = 4 + (3 * n + 1) by omega]
    exact readbackBinary_footer n m 1

end Sys2Proof.Machine

/-! # Frames

Proofs of the frame-level statements of 42_text_header.md, 43_binary.md and 44_pixel_data.md, and of a readback frame fed
back. The pixel data come first: a frame is its header and then its pixels. -/

namespace Sys2Proof.Machine

/-! ## One byte of a run -/

theorem drain_of_decode (n : Nat) {s : State} {b : Byte} {rest : List Byte} {i : Instr} (hrx : s.rx = b :: rest)
    (hdecode : decode s.state b = i) : drain (n + 1) s = drain n (afterExec i s) := by
  rw [drain_succ_of_rx_cons n hrx, hdecode]

/-! ## What a frame's start may be -/

/-- Position, FrameContext, the continuous flag and RX of the state a frame starts from do not show in its result. -/
theorem pixelsDone_of_frame {s t : State} {pos : DecoderState} {count idx : Half} {chk r g : Byte} {bin' cont' : Bool}
    {rx : List Byte} {bin : Bool} {i : Half} {cont : Bool} {ps : List Rgb} {rest : List Byte}
    (h : PixelsDone
      { s with
        state := pos, count := count, chk := chk, idx := idx, r := r, g := g, bin := bin'
        continuous := cont', rx := rx }
      t bin i cont ps rest) : PixelsDone s t bin i cont ps rest where
  rx := h.rx
  trace := h.trace
  mem := h.mem
  registers := h.registers
  committed := ⟨h.committed.claim, h.committed.shown⟩
  surroundings := ⟨h.surroundings.cfg, h.surroundings.invocation, h.surroundings.link, h.surroundings.host⟩
  errors := h.errors

theorem finishByte_commit (b : Byte) (s : State) :
    finishByte b (commit s) =
      { s with
        state := .idle, count := 0, chk := 0, idx := 0, r := 0, g := 0, bin := false
        now := s.now + Config.elapsed s.draws
        claim := some { tag := s.cfg.claimTag, expiry := s.now + Config.elapsed s.draws + s.sampled.claimTimeout }
        shown := s.mem
        token := s.cfg.tokenType.value (Config.sinkToken (s.draws + 1))
        draws := s.draws + 2
        trace := s.trace ++ commitEffects s
        continuous := s.continuous && b == contOnByte, rx := s.rx.tail } := by
  rw [commit_eq, finishByte_eq, List.append_assoc]
  rfl

/-- A frame of no pixels is one commit (R194, D5, D6). -/
theorem pixelsDone_nil (b : Byte) (s : State) (bin : Bool) (i : Half) :
    PixelsDone s (finishByte b (commit s)) bin i (s.continuous && b == contOnByte) [] s.rx.tail := by
  rw [finishByte_commit]
  exact
    { rx := rfl
      trace := by rw [writeEffects, List.append_nil]
      mem := rfl
      registers := rfl
      committed := ⟨rfl, rfl⟩
      surroundings := ⟨rfl, ⟨rfl, rfl, rfl⟩, ⟨rfl, rfl, rfl⟩, ⟨rfl, rfl, rfl⟩⟩
      errors := rfl }

/-- The last blue byte completes a frame of one pixel (R192, R194). -/
theorem pixelsDone_last {s : State} (b : Byte) (h : s.count - 1 = 0) :
    PixelsDone s (afterExec (.pxB b) s) s.bin s.idx (s.continuous && b == contOnByte)
      [{ r := s.r, g := s.g, b := b }] s.rx.tail := by
  rw [afterExec_pxB, if_pos h, finishByte_commit]
  exact
    { rx := rfl
      trace := by
        rw [writePixel_trace]
        rfl
      mem := rfl
      registers := rfl
      committed := ⟨rfl, rfl⟩
      surroundings := ⟨rfl, ⟨rfl, rfl, rfl⟩, ⟨rfl, rfl, rfl⟩, ⟨rfl, rfl, rfl⟩⟩
      errors := rfl }

theorem afterExec_pxB_of_more {s : State} (b : Byte) (h : s.count - 1 ≠ 0) :
    afterExec (.pxB b) s = finishByte b { writePixel b s with state := .pxR } := by
  rw [afterExec_pxB, if_neg h]

/-- A blue byte before the last puts its pixel before those that follow (R192). -/
theorem pixelsDone_cons {s t : State} {b : Byte} (h : s.count - 1 ≠ 0) {cont : Bool} {ps : List Rgb}
    {rest : List Byte}
    (hmore : PixelsDone (afterExec (.pxB b) s) t s.bin (s.idx + 1) cont ps rest) :
    PixelsDone s t s.bin s.idx cont ({ r := s.r, g := s.g, b := b } :: ps) rest := by
  rw [afterExec_pxB_of_more b h] at hmore
  exact
    { rx := hmore.rx
      trace := by
        rw [hmore.trace]
        simp [writeEffects, commitEffects, wirePixel]
      mem := hmore.mem
      registers := hmore.registers
      committed := ⟨hmore.committed.claim, hmore.committed.shown⟩
      surroundings := ⟨hmore.surroundings.cfg, hmore.surroundings.invocation, hmore.surroundings.link,
        hmore.surroundings.host⟩
      errors := hmore.errors }

/-! ## Pixel data (R190 to R196) -/

/-- From the position `pos`, with the channels of `p` before it held, the bytes of `p` and `ps` draw these pixels. -/
def DrawsFrom (pos : DecoderState) (ps : List Rgb) (rest : List Byte) : Prop :=
  ∀ (s : State) (p : Rgb), s.state = pos →
    (1 ≤ channelsHeld pos → p.r = s.r) → (2 ≤ channelsHeld pos → p.g = s.g) → s.count.toNat = ps.length + 1 →
    s.rx = (pixelBytes (p :: ps)).drop (channelsHeld pos) ++ rest →
    PixelsDone s (drain (3 * (ps.length + 1) - channelsHeld pos) s) s.bin s.idx
      (s.continuous && ((pixelBytes (p :: ps)).drop (channelsHeld pos)).all (· == 0x4F)) (p :: ps) rest

theorem drawsFrom_blue_nil (rest : List Byte) : DrawsFrom .pxB [] rest := by
  intro s p hpos hr hg hcount hrx
  have hlast : s.count - 1 = 0 := by
    apply BitVec.eq_of_toNat_eq
    rw [toNat_sub_one (by omega), hcount]
    rfl
  have hrx' : s.rx = p.b :: rest := hrx
  have hp : p = { r := s.r, g := s.g, b := p.b } := by rw [← hr (by decide), ← hg (by decide)]
  have hdrain : drain (3 * 1 - channelsHeld .pxB) s = afterExec (.pxB p.b) s :=
    drain_of_decode 0 hrx' (by rw [hpos]; rfl)
  have hall : ((pixelBytes [p]).drop (channelsHeld .pxB)).all (· == 0x4F) = (p.b == contOnByte) := Bool.and_true _
  have hdone := pixelsDone_last p.b hlast
  rw [hrx', List.tail_cons, ← hp, ← hall] at hdone
  exact hdrain ▸ hdone

theorem drawsFrom_blue_cons {q : Rgb} {qs : List Rgb} {rest : List Byte} (hred : DrawsFrom .pxR qs rest) :
    DrawsFrom .pxB (q :: qs) rest := by
  intro s p hpos hr hg hcount hrx
  rw [List.length_cons] at hcount
  have hmore : s.count - 1 ≠ 0 := by
    intro h
    have hzero := congrArg BitVec.toNat h
    rw [toNat_sub_one (by omega), hcount] at hzero
    simp at hzero
  have hrx' : s.rx = p.b :: (pixelBytes (q :: qs) ++ rest) := hrx
  have hp : p = { r := s.r, g := s.g, b := p.b } := by rw [← hr (by decide), ← hg (by decide)]
  have hdrain : drain (3 * (qs.length + 1 + 1) - channelsHeld .pxB) s =
      drain (3 * (qs.length + 1) - channelsHeld .pxR) (afterExec (.pxB p.b) s) :=
    drain_of_decode (3 * (qs.length + 1)) hrx' (by rw [hpos]; rfl)
  have hu := afterExec_pxB_of_more p.b hmore
  have hcount' : (afterExec (.pxB p.b) s).count.toNat = qs.length + 1 := by
    have := toNat_sub_one (v := s.count) (by omega)
    rw [hu]
    show (s.count - 1).toNat = _
    omega
  have hrxu : (afterExec (.pxB p.b) s).rx = pixelBytes (q :: qs) ++ rest := by
    rw [afterExec_rx (by simp) (by simp), hrx', List.tail_cons]
  have hdone := hred (afterExec (.pxB p.b) s) q (by rw [hu]; rfl) (by simp [channelsHeld]) (by simp [channelsHeld])
    hcount' hrxu
  have hbin : (afterExec (.pxB p.b) s).bin = s.bin := by rw [hu]; rfl
  have hidx : (afterExec (.pxB p.b) s).idx = s.idx + 1 := by rw [hu]; rfl
  have hcont : (afterExec (.pxB p.b) s).continuous = (s.continuous && p.b == contOnByte) := by rw [hu]; rfl
  rw [hbin, hidx, hcont, Bool.and_assoc, ← hdrain] at hdone
  have hcons := pixelsDone_cons hmore hdone
  rw [← hp] at hcons
  exact hcons

/-- A green byte is held until the blue one arrives (R191). -/
theorem drawsFrom_green {ps : List Rgb} {rest : List Byte} (hblue : DrawsFrom .pxB ps rest) :
    DrawsFrom .pxG ps rest := by
  intro s p hpos hr _ hcount hrx
  have hrx' : s.rx = p.g :: (p.b :: (pixelBytes ps ++ rest)) := hrx
  have hdrain : drain (3 * (ps.length + 1) - channelsHeld .pxG) s =
      drain (3 * (ps.length + 1) - channelsHeld .pxB) (afterExec (.pxG p.g) s) :=
    drain_of_decode (3 * ps.length + 1) hrx' (by rw [hpos]; rfl)
  have hdone := hblue (afterExec (.pxG p.g) s) p rfl (fun _ => hr (by decide)) (fun _ => rfl) hcount
    (congrArg List.tail hrx')
  have hcont : (afterExec (.pxG p.g) s).continuous = (s.continuous && p.g == contOnByte) := rfl
  rw [hcont, Bool.and_assoc, ← hdrain] at hdone
  exact pixelsDone_of_frame hdone

/-- A red byte is held until the green one arrives (R190). -/
theorem drawsFrom_red {ps : List Rgb} {rest : List Byte} (hgreen : DrawsFrom .pxG ps rest) :
    DrawsFrom .pxR ps rest := by
  intro s p hpos _ _ hcount hrx
  have hrx' : s.rx = p.r :: (p.g :: p.b :: (pixelBytes ps ++ rest)) := hrx
  have hdrain : drain (3 * (ps.length + 1) - channelsHeld .pxR) s =
      drain (3 * (ps.length + 1) - channelsHeld .pxG) (afterExec (.pxR p.r) s) :=
    drain_of_decode (3 * ps.length + 2) hrx' (by rw [hpos]; rfl)
  have hdone := hgreen (afterExec (.pxR p.r) s) p rfl (fun _ => rfl) (by simp [channelsHeld]) hcount
    (congrArg List.tail hrx')
  have hcont : (afterExec (.pxR p.r) s).continuous = (s.continuous && p.r == contOnByte) := rfl
  rw [hcont, Bool.and_assoc, ← hdrain] at hdone
  exact pixelsDone_of_frame hdone

theorem drawsFrom_blue (ps : List Rgb) (rest : List Byte) : DrawsFrom .pxB ps rest := by
  induction ps with
  | nil => exact drawsFrom_blue_nil rest
  | cons q qs ih => exact drawsFrom_blue_cons (drawsFrom_red (drawsFrom_green ih))

/-- Settles O54: whatever the bytes are, the three positions take them in turn until `count` pixels are written. -/
theorem pixelDataCannotBeInterrupted : Obligations.PixelDataCannotBeInterrupted := by
  intro s p ps rest hpixel hr hg hcount hrx
  have hblue := drawsFrom_blue ps rest
  rcases hpixel with hpos | hpos | hpos <;> rw [hpos] at hr hg hrx ⊢
  · exact drawsFrom_red (drawsFrom_green hblue) s p hpos hr hg hcount hrx
  · exact drawsFrom_green hblue s p hpos hr hg hcount hrx
  · exact hblue s p hpos hr hg hcount hrx

/-! ## Headers (R83, R86) -/

/-- A state in a header position: continuous mode has been ended by the lead byte. -/
def atHeader (pos : DecoderState) (count : Half) (chk : Byte) (rx : List Byte) (s : State) : State :=
  { s with state := pos, count := count, chk := chk, continuous := false, rx := rx }

theorem afterExec_thStart_header {s : State} {rest : List Byte} (hrx : s.rx = 0x41 :: rest) :
    afterExec .thStart s = atHeader .thM2 s.count s.chk rest s := by
  rw [afterExec_thStart, finishByte_of_ne _ _ (by decide), hrx]
  rfl

theorem afterExec_binStart_header {s : State} {rest : List Byte} (hrx : s.rx = 0xC9 :: rest) :
    afterExec .binStart s = atHeader .binType s.count s.chk rest s := by
  rw [afterExec_binStart, finishByte_of_ne _ _ (by decide), hrx]
  rfl

section

variable (s : State) (count : Half) (chk b : Byte) (rest : List Byte)

theorem afterExec_thM2_header :
    afterExec (.thM2 s.cfg.thM2) (atHeader .thM2 count chk (s.cfg.thM2 :: rest) s) =
      atHeader .thM3 count chk rest s := by
  have hmagic : s.cfg.thM2 = (atHeader .thM2 count chk (s.cfg.thM2 :: rest) s).cfg.thM2 := rfl
  rw [afterExec_thM2, if_pos hmagic]
  rfl

theorem afterExec_thM3_header :
    afterExec (.thM3 s.cfg.thM3) (atHeader .thM3 count chk (s.cfg.thM3 :: rest) s) =
      atHeader .thCntHi count chk rest s := by
  have hmagic : s.cfg.thM3 = (atHeader .thM3 count chk (s.cfg.thM3 :: rest) s).cfg.thM3 := rfl
  rw [afterExec_thM3, if_pos hmagic]
  rfl

theorem afterExec_thCntHi_header :
    afterExec (.thCntHi b) (atHeader .thCntHi count chk (b :: rest) s) =
      atHeader .thCntLo (highHalf b) b rest s := rfl

theorem afterExec_thCntLo_header :
    afterExec (.thCntLo b) (atHeader .thCntLo count chk (b :: rest) s) =
      atHeader .thChk (countWithLow count b) (checksumWithLow chk b) rest s := rfl

theorem afterExec_binData_header :
    afterExec .binData (atHeader .binType count chk (0xDA :: rest) s) = atHeader .binLenHi count chk rest s := rfl

theorem afterExec_binLenHi_header :
    afterExec (.binLenHi b) (atHeader .binLenHi count chk (b :: rest) s) =
      atHeader .binLenLo (highHalf b) chk rest s := rfl

end

/-- The header of a text frame up to its checksum byte (R150 to R153). -/
theorem drain_textHeader {s : State} {hi lo : Byte} {rest : List Byte} (hidle : s.state = .idle)
    (hrx : s.rx = 0x41 :: s.cfg.thM2 :: s.cfg.thM3 :: hi :: lo :: rest) :
    drain 5 s = atHeader .thChk (countWithLow (highHalf hi) lo) (checksumWithLow hi lo) rest s := by
  rw [drain_of_decode 4 hrx (i := .thStart) (by rw [hidle]; rfl), afterExec_thStart_header hrx,
    drain_of_decode 3 rfl (i := .thM2 s.cfg.thM2) rfl, afterExec_thM2_header,
    drain_of_decode 2 rfl (i := .thM3 s.cfg.thM3) rfl, afterExec_thM3_header,
    drain_of_decode 1 rfl (i := .thCntHi hi) rfl, afterExec_thCntHi_header,
    drain_of_decode 0 rfl (i := .thCntLo lo) rfl, afterExec_thCntLo_header, drain]

/-- The header of a binary frame up to its length-low byte (R170, R173). -/
theorem drain_binHeader {s : State} {hi : Byte} {rest : List Byte} (hidle : s.state = .idle)
    (hrx : s.rx = 0xC9 :: 0xDA :: hi :: rest) : drain 3 s = atHeader .binLenLo (highHalf hi) s.chk rest s := by
  rw [drain_of_decode 2 hrx (i := .binStart) (by rw [hidle]; rfl), afterExec_binStart_header hrx,
    drain_of_decode 1 rfl (i := .binData) rfl, afterExec_binData_header,
    drain_of_decode 0 rfl (i := .binLenHi hi) rfl, afterExec_binLenHi_header, drain]

/-! ## From a header to the end of its frame -/

/-- The pixels of a frame whose header has been read. -/
theorem frameDone_of_pixels {s u : State} {count : Half} {chk : Byte} {bin bin' : Bool} {p : Rgb} {ps : List Rgb}
    {rest : List Byte}
    (hu : u = { s with
      state := .pxR, count := count, chk := chk, idx := 0, bin := bin', continuous := false
      rx := pixelBytes (p :: ps) ++ rest })
    (hbin : bin' = bin) (hcount : count.toNat = ps.length + 1) :
    FrameDone s (drain (3 * (ps.length + 1)) u) bin (p :: ps) rest := by
  subst hu hbin
  exact pixelsDone_of_frame
    (drawsFrom_red (drawsFrom_green (drawsFrom_blue ps rest)) _ p rfl (by simp [channelsHeld]) (by simp [channelsHeld])
      hcount rfl)

/-- The checksum byte and the pixels of a text frame (R154). -/
theorem frameDone_of_thChk {s : State} {count : Half} {chk : Byte} {ps : List Rgb} {rest : List Byte}
    (hbin : s.bin = false) (hcount : count.toNat = ps.length) :
    FrameDone s
      (drain (3 * ps.length) (afterExec (.thChk chk) (atHeader .thChk count chk (chk :: (pixelBytes ps ++ rest)) s)))
      false ps rest := by
  have haccepted : chk = (atHeader .thChk count chk (chk :: (pixelBytes ps ++ rest)) s).chk := rfl
  rw [afterExec_thChk, if_pos haccepted]
  cases ps with
  | nil =>
    have hzero : (atHeader .thChk count chk (chk :: (pixelBytes [] ++ rest)) s).count = 0 :=
      BitVec.eq_of_toNat_eq hcount
    rw [if_pos hzero]
    exact pixelsDone_of_frame (pixelsDone_nil chk _ false 0)
  | cons p ps =>
    have hpixels : ¬ (atHeader .thChk count chk (chk :: (pixelBytes (p :: ps) ++ rest)) s).count = 0 := by
      intro h
      have hzero : count.toNat = 0 := congrArg BitVec.toNat h
      rw [hcount] at hzero
      simp at hzero
    rw [if_neg hpixels]
    exact frameDone_of_pixels (chk := chk) rfl hbin hcount

/-- The length-low byte and the pixels of a binary frame (R174, D6). -/
theorem frameDone_of_binLenLo {s : State} {hi lo chk : Byte} {ps : List Rgb} {rest : List Byte}
    (hlen : (pixelsOfLength (lengthWithLow (highHalf hi) lo)).toNat = ps.length) :
    FrameDone s
      (drain (3 * ps.length)
        (afterExec (.binLenLo lo) (atHeader .binLenLo (highHalf hi) chk (lo :: (pixelBytes ps ++ rest)) s)))
      true ps rest := by
  cases ps with
  | nil =>
    have hshort : pixelsOfLength (lengthWithLow (highHalf hi) lo) = 0 := BitVec.eq_of_toNat_eq hlen
    rw [afterExec_binLenLo_of_short (s := atHeader .binLenLo (highHalf hi) chk _ s) lo hshort]
    exact pixelsDone_of_frame (pixelsDone_nil lo (beginBinaryData lo (atHeader .binLenLo (highHalf hi) chk _ s)) true 0)
  | cons p ps =>
    have hpixels : pixelsOfLength (lengthWithLow (highHalf hi) lo) ≠ 0 := by
      intro h
      rw [h] at hlen
      simp at hlen
    rw [afterExec_binLenLo_of_pixels (s := atHeader .binLenLo (highHalf hi) chk _ s) lo hpixels]
    exact frameDone_of_pixels (chk := chk) rfl rfl hlen

theorem drain_add_one_of_rx (n : Nat) {s : State} {b : Byte} {rest : List Byte} (hrx : (drain n s).rx = b :: rest) :
    drain (n + 1) s = afterExec (decode (drain n s).state b) (drain n s) := by
  rw [drain_add, drain_of_decode 0 hrx rfl, drain]

/-! ## Text frames -/

theorem textFrame_done {s : State} {ps : List Rgb} {rest : List Byte} (hidle : s.state = .idle) (hclear : s.frameClear)
    (hlen : ps.length ≤ 65535) (hrx : s.rx = textFrame s.cfg ps ++ rest) :
    FrameDone s (drain (6 + 3 * ps.length) s) false ps rest := by
  obtain ⟨-, -, -, -, -, hbin⟩ := hclear
  have hheader := drain_textHeader hidle hrx
  have hsum (field : Half) :
      checksumWithLow (hiByte field) (loByte field) = hiByte field ^^^ loByte field ^^^ 0x55 := rfl
  rw [countWithLow_bytes, BitVec.sub_add_cancel, hsum] at hheader
  have hchk := drain_add_one_of_rx 5 (s := s) (by rw [hheader]; rfl)
  rw [hheader] at hchk
  rw [drain_add, hchk]
  exact frameDone_of_thChk hbin (by rw [BitVec.toNat_ofNat]; omega)

/-- A frame leaves the block idle and FrameContext zero (R26, R194). -/
theorem pixelsDone_idle {s t : State} {bin : Bool} {i : Half} {cont : Bool} {ps : List Rgb} {rest : List Byte}
    (h : PixelsDone s t bin i cont ps rest) : t.state = .idle ∧ t.frameClear :=
  ⟨congrArg Registers.state h.registers, congrArg Registers.count h.registers, congrArg Registers.chk h.registers,
    congrArg Registers.idx h.registers, congrArg Registers.r h.registers, congrArg Registers.g h.registers,
    congrArg Registers.bin h.registers⟩

theorem pixelsDone_commitEffects {s t : State} {bin : Bool} {i : Half} {cont : Bool} {ps : List Rgb} {rest : List Byte}
    (h : PixelsDone s t bin i cont ps rest) : commitEffects t = commitEffects s := by
  rw [commitEffects, h.surroundings.cfg, h.surroundings.invocation.2.1, commitEffects]

/-- Settles O52: the header is accepted because its checksum byte is its own, and the second frame finds the block as
the first did. -/
theorem textFramesDrawTheirPixels : Obligations.TextFramesDrawTheirPixels := by
  refine ⟨fun s ps rest hidle hclear hlen hrx => textFrame_done hidle hclear hlen hrx,
    fun s ps rest hidle hclear hlen hrx => ?_⟩
  have hfirst := textFrame_done hidle hclear hlen hrx
  obtain ⟨hidle', hclear'⟩ := pixelsDone_idle hfirst
  have hrx' := hfirst.rx
  rw [← hfirst.surroundings.cfg] at hrx'
  have hsecond := textFrame_done hidle' hclear' hlen hrx'
  rw [Nat.two_mul, drain_add, hsecond.trace, hfirst.trace, pixelsDone_commitEffects hfirst, hfirst.surroundings.cfg]
  simp only [List.append_assoc]

/-! ## Binary frames -/

theorem binaryFrame_done {s : State} {len : Half} {ps : List Rgb} {rest : List Byte} (hidle : s.state = .idle)
    (hlen : ps.length = len.toNat / 3) (hrx : s.rx = binHeader len ++ (pixelBytes ps ++ rest)) :
    FrameDone s (drain (4 + 3 * ps.length) s) true ps rest := by
  have hheader := drain_binHeader hidle hrx
  have hlow := drain_add_one_of_rx 3 (s := s) (by rw [hheader]; rfl)
  rw [hheader] at hlow
  rw [drain_add, hlow]
  exact frameDone_of_binLenLo (by rw [lengthWithLow_bytes, pixelsOfLength_toNat, hlen])

/-- Settles O53: the two length bytes give the length back, and `ps` are its quotient by three. -/
theorem binaryFrameDrawsItsPixels : Obligations.BinaryFrameDrawsItsPixels :=
  fun _ _ _ _ hidle _ hlen hrx => binaryFrame_done hidle hlen hrx

/-! ## A readback frame fed back -/

theorem pixelBytes_map (f : Nat → Rgb) (is : List Nat) :
    pixelBytes (is.map f) = is.flatMap fun i => [(f i).r, (f i).g, (f i).b] := by
  induction is with
  | nil => rfl
  | cons i is ih =>
    rw [List.map_cons, pixelBytes, ih]
    rfl

theorem readbackBinary_eq_frame (n : Nat) (m : Memory) :
    readbackBinary n m = binHeader (readbackLength n) ++ (pixelBytes (readbackPixels n m) ++ [0x36, 0x0A]) := by
  rw [readbackPixels, pixelBytes_map]
  rfl

/-- A byte of noise after a frame changes nothing the frame has done (R226). -/
theorem pixelsDone_noise {s t : State} {bin : Bool} {i : Half} {ps : List Rgb} {b : Byte} {rest : List Byte}
    (hb : b ∉ leadValues) (h : PixelsDone s t bin i false ps (b :: rest)) :
    PixelsDone s (drain 1 t) bin i false ps rest := by
  have hdecode : decode t.state b = .noise b := by
    rw [(pixelsDone_idle h).1]
    exact decode_idle_of_not_lead hb
  rw [drain_of_decode 0 h.rx hdecode, drain, afterExec_noise, finishByte_of_ne b t (ne_contOnByte_of_not_lead hb)]
  exact
    { rx := by rw [h.rx]; rfl
      trace := h.trace
      mem := h.mem
      registers := by
        have hregs : ({ t with continuous := false, rx := t.rx.tail } : State).registers =
          { t.registers with continuous := false } := rfl
        rw [hregs, h.registers]
      committed := ⟨h.committed.claim, h.committed.shown⟩
      surroundings := ⟨h.surroundings.cfg, h.surroundings.invocation, h.surroundings.link, h.surroundings.host⟩
      errors := h.errors }

/-- Settles O55: the readback frame is a binary frame with its own length, and neither footer byte is a lead value. -/
theorem readbackFrameDecodesBack : Obligations.ReadbackFrameDecodesBack := by
  intro s n m rest hidle _ hn hrx
  have hpixels : (readbackPixels n m).length = n := by rw [readbackPixels, List.length_map, List.length_range]
  have hlen : (readbackPixels n m).length = (readbackLength n).toNat / 3 := by
    rw [hpixels, readbackLength, BitVec.toNat_ofNat]
    omega
  have hrx' : s.rx = binHeader (readbackLength n) ++ (pixelBytes (readbackPixels n m) ++ (0x36 :: 0x0A :: rest)) := by
    rw [hrx, readbackBinary_eq_frame]
    simp only [List.append_assoc, List.cons_append, List.nil_append]
  have hframe := binaryFrame_done hidle hlen hrx'
  rw [hpixels] at hframe
  have hfooter := pixelsDone_noise (by decide) (pixelsDone_noise (by decide) hframe)
  rw [← drain_add, ← drain_add] at hfooter
  rw [show 6 + 3 * n = 4 + 3 * n + 1 + 1 by omega]
  exact hfooter

end Sys2Proof.Machine

/-! # Invocations in a quiet environment

Proofs of the statements of 40_guard_and_invocation.md section 3 and 60_exceptions.md section 1 about whole runs: every
invocation returns, and what the bytes do does not depend on how a run is cut into invocations. -/

namespace Sys2Proof.Machine

/-! ## Runs of the machine -/

theorem core_run_of_next (M : Host.Core) {s u : M.State} (h : M.step s = .next u) (k : Nat) :
    M.run (k + 1) s = M.run k u := by
  rw [Host.Core.run, h]

theorem core_run_of_refused (M : Host.Core) {s : M.State} {r : M.Refusal} (h : M.step s = .refused r) (k : Nat) :
    M.run (k + 1) s = .refused r := by
  rw [Host.Core.run, h]

theorem run_succ_of_step {s u : State} (h : step s = .next u) (k : Nat) : core.run (k + 1) s = core.run k u :=
  core_run_of_next core h k

/-- A run that goes on has made its first step. -/
theorem step_of_run_succ {k : Nat} {s t : State} (h : core.run (k + 1) s = .next t) : ∃ u, step s = .next u := by
  rcases onlyAnOverlapStopsTheMachine s with hnext | ⟨hrefused, -⟩
  · exact hnext
  · have hrun := (core_run_of_refused core hrefused k).symm.trans h
    cases hrun

/-- The last step of a run. -/
theorem run_succ_last {k : Nat} {s t : State} (h : core.run (k + 1) s = .next t) :
    ∃ u : State, core.run k s = .next u ∧ step u = .next t := by
  induction k generalizing s with
  | zero =>
    obtain ⟨u, hu⟩ := step_of_run_succ h
    rw [run_succ_of_step hu] at h
    exact ⟨s, rfl, hu.trans h⟩
  | succ k ih =>
    obtain ⟨u, hu⟩ := step_of_run_succ h
    rw [run_succ_of_step hu] at h ⊢
    exact ih h

/-! ## The block's moves in a quiet environment (R112) -/

theorem step_of_quiet {s : State} (h : s.schedule = []) : step s = blockStep s := by
  simp only [step, nextMove, h]

theorem blockStep_of_scheduling {s : State} (h : s.phase = .scheduling) : blockStep s = .next (finishInvocation s) := by
  simp only [blockStep, h]

theorem blockStep_of_rx_nil {s : State} (h : s.phase = .draining) (hrx : s.rx = []) :
    blockStep s = .next (endLoop s) := by
  simp only [blockStep, h, hrx, decodeStream]

theorem blockStep_of_rx_cons {s : State} {b : Byte} {rest : List Byte} (h : s.phase = .draining)
    (hrx : s.rx = b :: rest) : blockStep s = .next (afterByte (afterExec (decode s.state b) s)) := by
  simp only [blockStep, h, hrx, decodeStream, exec_eq_next, stepAfterByte]

section

variable (s : State)

@[simp] theorem afterByte_cfg : (afterByte s).cfg = s.cfg := by rw [afterByte_frame]
@[simp] theorem afterByte_registers : (afterByte s).registers = s.registers := by rw [afterByte_frame]; rfl
@[simp] theorem afterByte_sampled : (afterByte s).sampled = s.sampled := by rw [afterByte_frame]
@[simp] theorem afterByte_rx : (afterByte s).rx = s.rx := by rw [afterByte_frame]
@[simp] theorem afterByte_mem : (afterByte s).mem = s.mem := by rw [afterByte_frame]
@[simp] theorem afterByte_inputs : (afterByte s).inputs = s.inputs := by rw [afterByte_frame]
@[simp] theorem afterByte_schedule : (afterByte s).schedule = s.schedule := by rw [afterByte_frame]

/-- The budget test makes a note at most (R116). -/
theorem afterByte_trace : withoutDiag (afterByte s).trace = withoutDiag s.trace := by
  rcases afterByte_cases s with ⟨-, -, h⟩ | ⟨-, -, h⟩ | ⟨-, h⟩ <;> rw [h]
  exact (withoutDiag_append _ _).trans (List.append_nil _)

@[simp] theorem finishInvocation_rx : (finishInvocation s).rx = s.rx := by rw [finishInvocation_frame]

end

/-! ## Every invocation returns (R114, R270) -/

/-- A byte step leaves a part of what follows its byte. -/
theorem afterExec_rx_suffix (i : Instr) (s : State) : (afterExec i s).rx <:+ s.rx.tail := by
  by_cases hhandoff : i = .pairHandoff ∨ i = .reqHandoff
  · obtain ⟨raw, h⟩ := afterExec_handoff_rx hhandoff s
    obtain ⟨k, hk⟩ : ∃ k, takenBytes raw s.rx.length = k + 1 := ⟨raw % s.rx.length, rfl⟩
    rw [h, hk, ← List.drop_tail]
    exact List.drop_suffix k s.rx.tail
  · rw [not_or] at hhandoff
    rw [afterExec_rx hhandoff.1 hhandoff.2]

/-- At most `n` steps lead to a state between invocations, with RX a suffix of what it was. -/
def Returns (n : Nat) (s : State) : Prop :=
  ∃ (k : Nat) (t : State), k ≤ n ∧ core.run k s = .next t ∧ t.phase = .between ∧ t.rx <:+ s.rx

theorem returns_of_between {s : State} (h : s.phase = .between) : Returns 0 s :=
  ⟨0, s, Nat.le_refl 0, rfl, h, List.suffix_refl s.rx⟩

theorem returns_of_step {n : Nat} {s u : State} (hstep : step s = .next u) (hrx : u.rx <:+ s.rx) (h : Returns n u) :
    Returns (n + 1) s := by
  obtain ⟨k, t, hk, hrun, hphase, hsuffix⟩ := h
  exact ⟨k + 1, t, Nat.succ_le_succ hk, by rw [run_succ_of_step hstep]; exact hrun, hphase, hsuffix.trans hrx⟩

theorem returns_mono {m n : Nat} {s : State} (hmn : m ≤ n) (h : Returns m s) : Returns n s := by
  obtain ⟨k, t, hk, hrest⟩ := h
  exact ⟨k, t, Nat.le_trans hk hmn, hrest⟩

theorem returns_of_scheduling {s : State} (hquiet : s.schedule = []) (hphase : s.phase = .scheduling) :
    Returns 1 s := by
  have hstep : step s = .next (finishInvocation s) := by rw [step_of_quiet hquiet, blockStep_of_scheduling hphase]
  exact returns_of_step hstep (by rw [finishInvocation_rx]) (returns_of_between rfl)

theorem returns_of_rx_nil {s : State} (hquiet : s.schedule = []) (hphase : s.phase = .draining) (hrx : s.rx = []) :
    Returns 2 s := by
  have hstep : step s = .next (endLoop s) := by rw [step_of_quiet hquiet, blockStep_of_rx_nil hphase hrx]
  exact returns_of_step hstep (List.suffix_refl s.rx) (returns_of_scheduling (s := endLoop s) hquiet rfl)

/-- Each byte step of the loop makes RX shorter, so the loop ends (R114). -/
theorem returns_of_quiet (n : Nat) : ∀ s : State, s.rx.length = n → s.schedule = [] → s.phase ≠ .between →
    Returns (s.rx.length + 2) s := by
  induction n using Nat.strong_induction_on with
  | _ n ih =>
    intro s hlen hquiet hinside
    cases hphase : s.phase with
    | between => exact absurd hphase hinside
    | scheduling => exact returns_mono (by omega) (returns_of_scheduling hquiet hphase)
    | draining =>
      cases hrx : s.rx with
      | nil => exact returns_mono (by omega) (returns_of_rx_nil hquiet hphase hrx)
      | cons b rest =>
        have hstep : step s = .next (afterByte (afterExec (decode s.state b) s)) := by
          rw [step_of_quiet hquiet, blockStep_of_rx_cons hphase hrx]
        have hsuffix : (afterByte (afterExec (decode s.state b) s)).rx <:+ rest := by
          have h := afterExec_rx_suffix (decode s.state b) s
          rw [afterByte_rx]
          rw [hrx, List.tail_cons] at h
          exact h
        have hshorter := hsuffix.length_le
        rw [hrx, List.length_cons] at hlen
        refine returns_of_step hstep (hsuffix.trans (by rw [hrx]; exact List.suffix_cons b rest)) ?_
        by_cases hover : (afterByte (afterExec (decode s.state b) s)).phase = .between
        · exact returns_mono (by omega) (returns_of_between hover)
        · exact returns_mono (by rw [List.length_cons]; omega) (ih _ (by omega) _ rfl (by simp [hquiet]) hover)

/-- Settles O57: by induction on the length of RX, two steps being the end of the loop and the scheduler step. -/
theorem everyInvocationReturns : Obligations.EveryInvocationReturns :=
  fun s hquiet hinside => returns_of_quiet s.rx.length s rfl hquiet hinside

/-! ## Two runs whose registers agree but for `last_token` -/

theorem handled_decoder (c : Config) (r : Registers) (i : Instr) :
    (r.handled c i).decoder = (r.decoder.handled c i).decoder := by
  have branches {p : Prop} [Decidable p] {r1 r2 r1' r2' : Registers} (h1 : r1.decoder = r1'.decoder)
      (h2 : r2.decoder = r2'.decoder) : (if p then r1 else r2).decoder = (if p then r1' else r2').decoder := by
    split
    · exact h1
    · exact h2
  cases i
  case thM2 | thM3 | thChk | binLenLo | pxB => exact branches rfl rfl
  case cmdBaud0 | cmdBaud1 | cmdBaud2 | cmdBaud3 | cmdBaud4 | cmdBaud5 | cmdBaud6 | cmdBaud7 => exact branches rfl rfl
  all_goals rfl

theorem after_decoder (c : Config) (r : Registers) (i : Instr) :
    (r.after c i).decoder = (r.decoder.after c i).decoder := by
  have hafter (r : Registers) : (r.after c i).decoder =
      { (r.handled c i).decoder with
        continuous := if i = .pairHandoff then r.continuous
          else (r.handled c i).decoder.continuous && i.byte == contOnByte } := rfl
  rw [hafter, hafter, handled_decoder]
  rfl

theorem effectsOf_decoder (c : Config) (h : HostInputs) (r : Registers) (m : Memory) (i : Instr) :
    effectsOf c h r.decoder m i = effectsOf c h r m i := by
  cases i <;> rfl

theorem cellsAfter_decoder (c : Config) (r : Registers) (m : Memory) (i : Instr) :
    cellsAfter c r.decoder m i = cellsAfter c r m i := by
  cases i <;> rfl

/-! ## The trace without output -/

/-- Leaving out output leaves out the notes. -/
theorem withoutOutput_withoutDiag (es : List Effect) : withoutOutput (withoutDiag es) = withoutOutput es := by
  rw [withoutOutput, withoutDiag, List.filter_filter]
  congr 1
  funext e
  cases e <;> rfl

theorem withoutOutput_append (es fx : List Effect) :
    withoutOutput (es ++ fx) = withoutOutput es ++ withoutOutput fx := List.filter_append es fx

theorem withoutOutput_congr {es es' : List Effect} (h : withoutDiag es = withoutDiag es') :
    withoutOutput es = withoutOutput es' := by
  rw [← withoutOutput_withoutDiag, h, withoutOutput_withoutDiag]

theorem withoutOutput_tx (bytes : List Byte) : withoutOutput (bytes.map Effect.tx) = [] := by
  simp [withoutOutput]

/-! ## Plain byte steps -/

theorem drain_frame (n : Nat) (s : State) : (drain n s).cfg = s.cfg ∧ (drain n s).sampled = s.sampled := by
  induction n generalizing s with
  | zero => exact ⟨rfl, rfl⟩
  | succ n ih =>
    cases hrx : s.rx with
    | nil => rw [drain_of_rx_nil _ hrx]; exact ⟨rfl, rfl⟩
    | cons b rest =>
      obtain ⟨hcfg, hsampled⟩ := ih (afterExec (decode s.state b) s)
      rw [drain_succ_of_rx_cons n hrx, hcfg, hsampled, afterExec_cfg, afterExec_sampled]
      exact ⟨rfl, rfl⟩

/-! ## Resumability (R117) -/

/-- `t` stands where `n` plain byte steps take `s`, however the run from `s` to `t` was cut into invocations. -/
structure Follows (s : State) (n : Nat) (t : State) : Prop where
  quiet : t.schedule = []
  proceeds : proceed t.inputs = true
  sampled : t.sampled = s.sampled
  inputs : t.inputs = s.sampled
  cfg : t.cfg = s.cfg
  rx : t.rx = (drain n s).rx
  dropped : (drain n s).rx = s.rx.drop n
  registers : t.registers.decoder = (drain n s).registers.decoder
  mem : t.mem = (drain n s).mem
  output : withoutOutput t.trace = withoutOutput (drain n s).trace
  cut : CutTrace s n (withoutDiag t.trace)

theorem follows_start {s : State} (hquiet : s.schedule = []) (hproceed : proceed s.inputs = true)
    (hsampled : s.sampled = s.inputs) : Follows s 0 s :=
  ⟨hquiet, hproceed, rfl, hsampled.symm, rfl, rfl, rfl, rfl, rfl, rfl, .start⟩

theorem follows_poll {s t : State} {n : Nat} (h : Follows s n t) : Follows s n (poll t) := by
  rcases poll_cases t with ⟨-, hpoll⟩ | ⟨-, hpoll⟩ <;> rw [hpoll]
  · exact { h with sampled := h.inputs }
  · exact h

theorem follows_endLoop {s t : State} {n : Nat} (h : Follows s n t) : Follows s n (endLoop t) := { h with }

/-- The scheduler adds nothing, or one frame of the cells as the byte steps have left them (R255). -/
theorem follows_finish {s t : State} {n : Nat} (h : Follows s n t) : Follows s n (finishInvocation t) := by
  unfold finishInvocation
  rcases schedulerStep_cases t with ⟨hcont, -, hsend⟩ | ⟨-, hsend⟩ <;> rw [hsend]
  · have hcont' : (drain n s).continuous = true :=
      (congrArg Registers.continuous h.registers).symm.trans hcont
    refine { h with registers := h.registers, output := ?_, cut := ?_ }
    · rw [withoutOutput_append, withoutOutput_tx, List.append_nil]
      exact h.output
    · rw [withoutDiag_append, withoutDiag_tx, h.cfg, h.mem]
      exact .frame n _ h.cut hcont'
  · exact { h with }

/-- A byte step of the loop is the next plain byte step (R113). -/
theorem follows_byte {s t : State} {n : Nat} {b : Byte} {rest : List Byte} (hnone : NoHandoff s) (h : Follows s n t)
    (hrx : t.rx = b :: rest) : Follows s (n + 1) (afterByte (afterExec (decode t.state b) t)) := by
  have hrx' : (drain n s).rx = b :: rest := by rw [← h.rx, hrx]
  obtain ⟨hpair, hreq⟩ := hnone n b rest hrx'
  obtain ⟨hcfg, hsampled⟩ := drain_frame n s
  have hstate : t.state = (drain n s).state := congrArg Registers.state h.registers
  have hnext := drain_add_one_of_rx n hrx'
  rw [hstate]
  have heffects : effectsOf t.cfg t.sampled t.registers t.mem (decode (drain n s).state b) =
      effectsOf (drain n s).cfg (drain n s).sampled (drain n s).registers (drain n s).mem
        (decode (drain n s).state b) := by
    rw [← effectsOf_decoder, h.registers, effectsOf_decoder, h.cfg, h.sampled, h.mem, hcfg, hsampled]
  have htrace := afterExec_trace hpair hreq t
  have htrace' := afterExec_trace hpair hreq (drain n s)
  rw [← hnext] at htrace'
  rw [heffects] at htrace
  constructor
  case quiet => rw [afterByte_schedule, afterExec_schedule, h.quiet]
  case proceeds => rw [afterByte_inputs, afterExec_inputs, h.proceeds]
  case sampled => rw [afterByte_sampled, afterExec_sampled, h.sampled]
  case inputs => rw [afterByte_inputs, afterExec_inputs, h.inputs]
  case cfg => rw [afterByte_cfg, afterExec_cfg, h.cfg]
  case rx => rw [hnext, afterByte_rx, afterExec_rx hpair hreq, afterExec_rx hpair hreq, h.rx]
  case dropped => rw [hnext, afterExec_rx hpair hreq, h.dropped, List.tail_drop]
  case registers =>
    rw [hnext, afterByte_registers, afterExec_registers, afterExec_registers, after_decoder, h.registers,
      ← after_decoder, h.cfg, hcfg]
  case mem =>
    rw [hnext, afterByte_mem, afterExec_mem hpair hreq, afterExec_mem hpair hreq, ← cellsAfter_decoder, h.registers,
      cellsAfter_decoder, h.cfg, hcfg, h.mem]
  case output =>
    rw [withoutOutput_congr (afterByte_trace _), ← withoutOutput_withoutDiag, htrace, withoutOutput_append,
      withoutOutput_withoutDiag, h.output, ← withoutOutput_withoutDiag (drain (n + 1) s).trace, htrace',
      withoutOutput_append, withoutOutput_withoutDiag]
  case cut =>
    rw [afterByte_trace, htrace]
    exact .byte n _ _ h.cut htrace'

/-- Each step makes at most one byte step. -/
theorem follows_step {s t u : State} {n : Nat} (hnone : NoHandoff s) (h : Follows s n t) (hstep : step t = .next u) :
    Follows s n u ∨ Follows s (n + 1) u := by
  rw [step_of_quiet h.quiet] at hstep
  rcases blockStep_cases hstep with ⟨-, rfl⟩ | ⟨-, -, rfl⟩ | ⟨b, rest, -, hrx, rfl⟩ | ⟨-, rfl⟩
  · exact .inl (follows_poll h)
  · exact .inl (follows_endLoop h)
  · exact .inr (follows_byte hnone h hrx)
  · exact .inl (follows_finish h)

theorem follows_run {s : State} (hnone : NoHandoff s) (hstart : Follows s 0 s) (k : Nat) :
    ∀ t : State, core.run k s = .next t → ∃ n, n ≤ k ∧ Follows s n t := by
  induction k with
  | zero =>
    intro t hrun
    cases hrun
    exact ⟨0, Nat.le_refl 0, hstart⟩
  | succ k ih =>
    intro t hrun
    obtain ⟨u, hu, hstep⟩ := run_succ_last hrun
    obtain ⟨n, hn, hfollows⟩ := ih u hu
    rcases follows_step hnone hfollows hstep with h | h
    · exact ⟨n, by omega, h⟩
    · exact ⟨n + 1, by omega, h⟩

/-- Settles O56: the invariant of a run is that it stands where its byte steps have taken it. -/
theorem runsDoNotDependOnTheCut : Obligations.RunsDoNotDependOnTheCut := by
  intro k s t hquiet hproceed hsampled hnone hrun
  obtain ⟨n, hn, h⟩ := follows_run hnone (follows_start hquiet hproceed hsampled) k t hrun
  exact ⟨n, hn, h.rx, h.dropped, h.registers, h.mem, h.output, h.cut⟩

end Sys2Proof.Machine

/-! # Each instruction and each move in full

Proofs of the statements that give the whole next state of one instruction, of one move of the block or of one move of
the outside world, in the order of the spec's files. -/

namespace Sys2Proof.Machine

/-! ## Reset (R36, R300 to R303) -/

/-- Settles O1: the reset state is written with the values of the table. -/
theorem resetLeavesTheResetTable : Obligations.ResetLeavesTheResetTable := ⟨rfl, rfl⟩

theorem resetBlock_registers (s : State) : (resetBlock s).registers = Registers.reset s.cfg := rfl

/-- Settles O2: the step is `resetBlock`, which writes the registers and little else. -/
theorem resetInputRestoresTheRegisters : Obligations.ResetInputRestoresTheRegisters := by
  intro s ms hs
  exact ⟨resetBlock { s with schedule := ms }, step_of_schedule_cons hs, resetBlock_registers _, rfl, rfl,
    ⟨rfl, rfl, rfl, rfl⟩, rfl, rfl, rfl, rfl, rfl, rfl, rfl, rfl, rfl, rfl, rfl, rfl, rfl⟩

/-- Settles O3: the restart move tests the pending restart. -/
theorem restartNeedsASchedule : Obligations.RestartNeedsASchedule := by
  intro s ms hs
  have hstep : step s = .next (restart { s with schedule := ms }) := step_of_schedule_cons hs
  rw [hstep, restart]
  constructor
  · intro hpending
    rw [if_neg (by simp [hpending])]
  · intro hpending
    rw [if_pos hpending]
    exact ⟨_, rfl, resetBlock_registers _, rfl⟩

/-! ## The hand-offs (R132, R133) -/

/-- Settles O5: the collaborator's draw gives the bytes taken and sent. -/
theorem pairingHandoffEndsTheInvocation : Obligations.PairingHandoffEndsTheInvocation := by
  refine ⟨decode_eq_pairHandoff_iff.mpr ⟨rfl, rfl⟩, fun s => ?_⟩
  have hexec := exec_eq_next .pairHandoff s
  rw [afterExec_pairHandoff, pairingHandoff_eq] at hexec
  refine ⟨_, _, (Config.pairing s.draws).sends, hexec, rfl, rfl, takenBytes_pos _ _, fun hrx => ?_, rfl, rfl, rfl, rfl,
    rfl, rfl, rfl, rfl, rfl, rfl, rfl, rfl, rfl⟩
  exact takenBytes_le _ _ (List.length_pos_of_ne_nil hrx)

/-- Settles O6: the outcome drawn gives the reply, its trace and the error label. -/
theorem requestHandoffSendsItsReply : Obligations.RequestHandoffSendsItsReply := by
  refine ⟨decode_eq_reqHandoff_iff.mpr ⟨rfl, rfl⟩, fun s => ?_⟩
  have hexec := exec_eq_next .reqHandoff s
  have hclear : ∀ t : State, clearContinuous 0x7B t = { t with continuous := false } := by
    intro t
    have hb : ((0x7B : Byte) == contOnByte) = false := by decide
    rw [clearContinuous, hb, Bool.and_false]
  rw [afterExec_reqHandoff, requestHandoff_eq, hclear] at hexec
  refine ⟨_, _, Config.request s.draws, hexec, rfl, takenBytes_pos _ _, fun hrx => ?_, rfl, rfl, ?_, rfl, rfl, rfl, rfl,
    rfl, rfl, rfl, rfl, rfl, rfl, rfl⟩
  · exact takenBytes_le _ _ (List.length_pos_of_ne_nil hrx)
  · exact List.append_assoc _ _ _

/-! ## Commands (R211 to R221) -/

theorem bootToggle_iff (d : BootDraw) :
    (bootToggle d = .switchScheduled ↔ d.runningImage = d.bootImage ∧ d.marked = true) ∧
      (bootToggle d = .markFailed ↔ d.runningImage = d.bootImage ∧ d.marked = false) ∧
      (bootToggle d = .alreadyMismatched ↔ d.runningImage ≠ d.bootImage) := by
  unfold bootToggle
  by_cases himage : d.runningImage = d.bootImage
  · cases hmarked : d.marked <;> simp [himage]
  · simp [himage]

/-- Settles O8: the outcome of the toggle decides between the two cases of a boot request. -/
theorem bootToggleSchedulesOrReports : Obligations.BootToggleSchedulesOrReports := by
  have hb : (0x5E : Byte) ≠ contOnByte := by decide
  refine ⟨(decode_eq_iff rfl).mpr ⟨rfl, rfl⟩, bootToggle_iff, fun s => ?_⟩
  rw [exec_eq_next, afterExec_cmdBoot, finishByte_of_ne _ _ hb]
  constructor
  · intro hcap
    rw [if_neg (by simp [hcap])]
  · intro hcap
    rw [if_pos hcap]
    refine ⟨Config.boot s.draws, s.draws + 1, ?_⟩
    rcases bootRequest_cases (Config.boot s.draws) s with ⟨hd, h⟩ | ⟨hd, h⟩
    · rw [if_pos hd, h]
    · rw [if_neg hd, h, List.append_assoc]
      rfl

theorem baudCommands_decode : ∀ row ∈ baudCommands, decode .idle row.2.1 = row.1 := by decide

theorem baudCommands_byte_ne : ∀ row ∈ baudCommands, row.2.1 ≠ contOnByte := by decide

theorem baudCommands_rate_ge : ∀ row ∈ baudCommands, 115200 ≤ row.2.2.toNat := by decide

theorem baudRequest_of_idle {target : Rate} {s : State} (h : target = s.baud ∨ target.toNat < s.cfg.baudMin.val) :
    baudRequest target s = s := by
  rw [baudRequest, if_pos h]

theorem baudRequest_of_change {target : Rate} {s : State} (hne : target ≠ s.baud)
    (hmin : s.cfg.baudMin.val ≤ target.toNat) :
    baudRequest target s =
      { s with
        baud := target, tx := [], line := s.line ++ s.tx.map (fun b => { byte := b, rate := s.linkRate })
        linkRate := target, trace := s.trace ++ [.drain, .reopen target] } := by
  rcases baudRequest_cases target s with ⟨h, -⟩ | ⟨-, -, h⟩
  · rcases h with h | h
    · exact absurd h hne
    · omega
  · rw [h, List.append_assoc]
    rfl

/-- Settles O10: `BAUD_MIN` is at most 115200, so each command's request differs from no request by the present rate
only. -/
theorem baudCommandsReopenTheLink : Obligations.BaudCommandsReopenTheLink := by
  refine ⟨fun target s => ⟨baudRequest_of_idle, baudRequest_of_change⟩, fun row hrow =>
    ⟨baudCommands_decode row hrow, fun s => ?_⟩⟩
  rw [exec_eq_next, afterExec_baudCommand s row hrow, finishByte_of_ne _ _ (baudCommands_byte_ne row hrow)]
  constructor
  · intro hsame
    rw [baudRequest_of_idle (.inl hsame)]
  · intro hne
    have hrate := baudCommands_rate_ge row hrow
    have hmin := s.cfg.baudMin.isLt
    rw [baudRequest_of_change hne (by omega)]

/-! ## The text header (R150 to R154) -/

/-- Error entry at the end of a byte step (R280, D10). -/
theorem finishByte_errorEntry (k : ErrorKind) (b : Byte) (s : State) :
    finishByte b (errorEntry k s) =
      { s with
        state := .idle, count := 0, chk := 0, idx := 0, r := 0, g := 0, bin := false
        errors := s.errors ++ [k], continuous := s.continuous && b == 0x4F, rx := s.rx.tail } := by
  rw [errorEntry_eq, finishByte_eq]
  rfl

/-- Settles O14: the byte is compared with the parameter, and a mismatch is error entry. -/
theorem textMagicBytesAdvanceOrReset : Obligations.TextMagicBytesAdvanceOrReset := by
  intro s b
  rw [exec_eq_next, exec_eq_next, afterExec_thM2, afterExec_thM3]
  refine ⟨rfl, rfl, fun h => ?_, fun h => ?_, fun h => ?_, fun h => ?_⟩
  · rw [if_pos h]
    rfl
  · rw [if_neg h, finishByte_errorEntry]
  · rw [if_pos h]
    rfl
  · rw [if_neg h, finishByte_errorEntry]

/-- The count wraps to zero for the largest field only (D4). -/
theorem countWithLow_eq_zero_iff (hi lo : Byte) : countWithLow (highHalf hi) lo = 0 ↔ hi = 0xFF ∧ lo = 0xFF := by
  have hzero : (0 : Half).toNat = 0 := rfl
  have hff : (0xFF : Byte).toNat = 255 := rfl
  have := hi.isLt
  have := lo.isLt
  rw [← BitVec.toNat_inj, ← BitVec.toNat_inj, ← BitVec.toNat_inj, countWithLow_toNat, hzero, hff]
  omega

/-- Settles O15: both meanings store what they compute, and the sum is the field plus one. -/
theorem textCountBytesAreStored : Obligations.TextCountBytesAreStored :=
  ⟨fun s b => ⟨rfl, rfl, exec_eq_next (.thCntHi b) s, exec_eq_next (.thCntLo b) s⟩, countWithLow_eq_zero_iff⟩

/-- Settles O16: the byte is compared with `chk`, then `count` with zero; the commit is a frame of no pixels. -/
theorem checksumByteDecidesTheFrame : Obligations.ChecksumByteDecidesTheFrame := by
  intro s b
  rw [exec_eq_next, afterExec_thChk]
  refine ⟨rfl, fun hb => ?wrong, fun hb hcount => ?pixels, fun hb hcount => ?empty⟩
  case wrong => rw [if_neg hb, finishByte_errorEntry]
  case pixels =>
    rw [if_pos hb, if_neg hcount]
    rfl
  case empty =>
    rw [if_pos hb, if_pos hcount, finishByte_commit]
    exact ⟨_, rfl, rfl, rfl, rfl, rfl, ⟨rfl, rfl⟩,
      ⟨rfl, ⟨rfl, rfl, rfl⟩, ⟨rfl, rfl, rfl⟩, ⟨rfl, rfl, rfl⟩⟩, rfl⟩

/-! ## The binary header (R170 to R174) -/

/-- Settles O18: the two sub-commands are rows of the table, and neither byte is `O`. -/
theorem binaryDataAndPing : Obligations.BinaryDataAndPing := by
  have hDA : (0xDA : Byte) ≠ contOnByte := by decide
  have hAA : (0xAA : Byte) ≠ contOnByte := by decide
  refine ⟨rfl, rfl, decode_idle_of_not_lead (by decide), fun s => ⟨?data, ?ping⟩⟩
  case data => rw [exec_eq_next, afterExec_binData, finishByte_of_ne _ _ hDA]
  case ping =>
    rw [exec_eq_next, afterExec_binPing, finishByte_of_ne _ _ hAA]
    rfl

/-- Settles O19: a byte outside the table of sub-commands falls through both rows, to error entry. -/
theorem unsupportedSubCommandResets : Obligations.UnsupportedSubCommandResets := by
  intro s b hDA hAA
  refine ⟨decode_binType_of_not_sub (by simpa [subCommands] using And.intro hDA hAA), ?_⟩
  rw [exec_eq_next, afterExec_binUnsupported, finishByte_errorEntry]

/-- Settles O20: length-low tests the quotient; a quotient of zero is a frame of no pixels. -/
theorem binaryLengthBytesBeginTheFrame : Obligations.BinaryLengthBytesBeginTheFrame := by
  intro s b
  refine ⟨rfl, rfl, exec_eq_next (.binLenHi b) s, fun hpixels => ?pixels, fun hshort => ?short⟩
  case pixels =>
    rw [exec_eq_next, afterExec_binLenLo_of_pixels b hpixels]
    rfl
  case short =>
    have hbegin : beginBinaryData b s =
        { s with count := pixelsOfLength (lengthWithLow s.count b), idx := 0, bin := true } := rfl
    rw [exec_eq_next, afterExec_binLenLo_of_short b hshort, hbegin, finishByte_commit]
    exact ⟨_, rfl, rfl, rfl, rfl, rfl, ⟨rfl, rfl⟩,
      ⟨rfl, ⟨rfl, rfl, rfl⟩, ⟨rfl, rfl, rfl⟩, ⟨rfl, rfl, rfl⟩⟩, rfl⟩

/-! ## Pixel data (R190 to R195) -/

/-- Settles O22: the decoder does not read the byte in these positions. -/
theorem colourBytesAreHeld : Obligations.ColourBytesAreHeld :=
  fun s b => ⟨rfl, rfl, exec_eq_next (.pxR b) s, exec_eq_next (.pxG b) s⟩

/-- The cells after a pixel of the frame has been written (R59, R60). -/
def cellsWithPixel (s : State) (b : Byte) : Memory :=
  sinkStore s.cfg.pixelCount s.mem s.idx.toNat (wirePixel s.cfg s.bin { r := s.r, g := s.g, b := b })

theorem writePixel_eq (b : Byte) (s : State) :
    writePixel b s =
      { s with
        mem := cellsWithPixel s b
        token := s.cfg.tokenType.value (Config.sinkToken s.draws), draws := s.draws + 1
        trace := s.trace ++ [.write s.idx (wirePixel s.cfg s.bin { r := s.r, g := s.g, b := b })]
        idx := s.idx + 1, count := s.count - 1 } := rfl

section

variable (s : State) (b : Byte)

theorem cellsWithPixel_read (hwf : Memory.wf s.mem = true) (h : s.idx.toNat < s.cfg.pixelCount) :
    sinkRead (cellsWithPixel s b) s.idx.toNat = wirePixel s.cfg s.bin { r := s.r, g := s.g, b := b } :=
  sinkRead_store_same _ _ _ _ hwf h

theorem cellsWithPixel_dropped (h : s.cfg.pixelCount ≤ s.idx.toNat) : cellsWithPixel s b = s.mem :=
  sinkStore_dropped _ _ _ _ h

theorem cellsWithPixel_other (a : Nat) (h : a < chanAddr s.idx.toNat 0 ∨ chanAddr s.idx.toNat 3 < a) :
    Memory.read (cellsWithPixel s b) a = Memory.read s.mem a := memory_read_store_other _ _ _ _ _ h

end

/-- Settles O23: the write is one store at `idx`, and the laws of the memory say what it reads as. -/
theorem blueByteWritesItsCell : Obligations.BlueByteWritesItsCell := by
  intro s b hwf hmore
  have hexec := exec_eq_next (.pxB b) s
  rw [afterExec_pxB_of_more b hmore, writePixel_eq, finishByte_eq] at hexec
  exact ⟨rfl, _, hexec, rfl, rfl, rfl, cellsWithPixel_read s b hwf, cellsWithPixel_dropped s b,
    cellsWithPixel_other s b, rfl, rfl, rfl, rfl, ⟨rfl, ⟨rfl, rfl, rfl⟩, ⟨rfl, rfl, rfl⟩, ⟨rfl, rfl, rfl⟩⟩⟩

/-- Settles O24: the same store, followed by a commit of the cells it leaves. -/
theorem lastBlueByteCommits : Obligations.LastBlueByteCommits := by
  intro s b hwf hlast
  have hexec := exec_eq_next (.pxB b) s
  rw [afterExec_pxB, if_pos hlast, writePixel_eq, finishByte_commit] at hexec
  exact ⟨_, hexec, rfl, rfl, List.append_assoc _ _ _, cellsWithPixel_read s b hwf, cellsWithPixel_dropped s b,
    cellsWithPixel_other s b, ⟨rfl, rfl⟩, rfl, ⟨rfl, ⟨rfl, rfl, rfl⟩, ⟨rfl, rfl, rfl⟩, ⟨rfl, rfl, rfl⟩⟩⟩

theorem composite_of_white_zero (r g b : Byte) : composite { r := r, g := g, b := b, w := 0 } = ⟨r, g, b, 0⟩ := by
  unfold composite
  simp only [sat8_zero]

/-- Settles O25: each channel is one saturating sum, and adding no white changes nothing. -/
theorem compositingSaturates : Obligations.CompositingSaturates := by
  refine ⟨fun p => ⟨sat8_toNat _ _, sat8_toNat _ _, sat8_toNat _ _⟩, fun c bin p => ?white,
    fun c p => ⟨rfl, sat8_toNat _ _, sat8_toNat _ _, sat8_toNat _ _⟩, fun c bin p h => ?plain⟩
  case white => cases bin <;> rfl
  case plain =>
    cases bin
    case false => rfl
    case true =>
      have hwhite : c.binWhiteIn = 0 := h.resolve_left (by simp)
      show composite { r := p.r, g := p.g, b := p.b, w := c.binWhiteIn } = _
      rw [hwhite, composite_of_white_zero]

/-! ## The invocation (R112 to R117, R255) -/

theorem blockStep_of_between {s : State} (h : s.phase = .between) : blockStep s = .next (poll s) := by
  simp only [blockStep, h]

/-- Settles O37: between invocations a quiet step is a poll. -/
theorem pollObeysTheGuard : Obligations.PollObeysTheGuard := by
  intro s hquiet hphase
  rw [step_of_quiet hquiet, blockStep_of_between hphase]
  constructor
  · intro hclosed
    rw [poll, if_neg (by simp [hclosed])]
  · intro hopen
    rw [poll, if_pos hopen]
    exact ⟨s.now + Config.elapsed s.draws, s.draws + 1, rfl⟩

theorem blockStep_of_draining {s : State} {b : Byte} {rest : List Byte} (h : s.phase = .draining)
    (hrx : s.rx = b :: rest) : blockStep s = stepAfterByte (exec (decode s.state b) s) := by
  simp only [blockStep, h, hrx, decodeStream]

/-- Settles O38: in the byte loop the block's move is the byte step, whether or not the schedule says `run` first. -/
theorem stepRunsTheDecodedInstruction : Obligations.StepRunsTheDecodedInstruction := by
  refine ⟨fun s b rest hphase hrx => ⟨fun hquiet => ?quiet, fun ms hs => ?scheduled⟩, fun t => rfl, fun s w => ?word⟩
  case quiet => rw [step_of_quiet hquiet, blockStep_of_draining hphase hrx]
  case scheduled =>
    rw [step_of_schedule_cons hs, moveStep]
    exact blockStep_of_draining (s := { s with schedule := ms }) hphase hrx
  case word =>
    have hs : (s.withFetchWord 8 w).schedule = .run :: s.schedule := rfl
    rw [step_of_schedule_cons hs, moveStep]
    exact blockStep_of_draining rfl rfl

theorem budgetMs_lt_iff (v : Millis) : budgetMs < v ↔ 100 < v.toNat := Iff.rfl

/-- Settles O39: the three cases of what follows a byte step. -/
theorem budgetIsTestedAfterEachByte : Obligations.BudgetIsTestedAfterEachByte := by
  intro t
  constructor
  · intro hphase
    refine ⟨t.now + Config.elapsed t.draws, t.draws + 1, ?_⟩
    rcases afterByte_cases t with ⟨-, hover, h⟩ | ⟨-, hunder, h⟩ | ⟨hother, -⟩
    · rw [if_pos ((budgetMs_lt_iff _).mp hover), h]
    · rw [if_neg (mt (budgetMs_lt_iff _).mpr hunder), h]
    · exact absurd hphase hother
  · intro hphase
    rcases afterByte_cases t with ⟨hdraining, -⟩ | ⟨hdraining, -⟩ | ⟨-, h⟩
    · simp [hphase] at hdraining
    · simp [hphase] at hdraining
    · exact h

/-- Settles O40: the two cases of the scheduler step, each followed by the return to the host. -/
theorem schedulerStepEndsTheInvocation : Obligations.SchedulerStepEndsTheInvocation := by
  intro s hquiet
  rw [step_of_quiet hquiet]
  refine ⟨fun hphase hrx => blockStep_of_rx_nil hphase hrx, fun hphase hcont htoken => ?pushes,
    fun hphase hno => ?silent⟩
  case pushes =>
    rw [blockStep_of_scheduling hphase, finishInvocation]
    rcases schedulerStep_cases s with ⟨-, -, h⟩ | ⟨hno, -⟩
    · rw [h]
    · rcases hno with hno | hno
      · simp [hcont] at hno
      · exact absurd hno htoken
  case silent =>
    rw [blockStep_of_scheduling hphase, finishInvocation]
    rcases schedulerStep_cases s with ⟨hcont, htoken, -⟩ | ⟨-, h⟩
    · rcases hno with hno | hno
      · simp [hcont] at hno
      · exact absurd hno htoken
    · rw [h]

/-! ## The outside world (R51, R55, R62, R70) -/

/-- Settles O43: the head of the schedule is the step. -/
theorem outsideMovesLeaveTheRegisters : Obligations.OutsideMovesLeaveTheRegisters := by
  intro s ms
  exact ⟨fun _ hs => step_of_schedule_cons hs, fun _ hs => step_of_schedule_cons hs,
    fun _ hs => step_of_schedule_cons hs, fun _ hs => step_of_schedule_cons hs, fun hs => step_of_schedule_cons hs,
    fun _ _ _ _ _ _ => ⟨rfl, rfl, rfl⟩⟩

end Sys2Proof.Machine
